-- ==== Sys2Proof/Word.lean ====
section
/-! DEFINITION. The bit-vector types of the block. Every field is unsigned and bit 0 is the least significant bit
(spec/00_scope.md R7). -/

namespace Sys2Proof

/-- A wire byte, a frame-data byte, a frame type, a frame id, a checksum (R5). -/
abbrev Byte := BitVec 8

/-- A 16-bit length, counter or register value (R5, R21). -/
abbrev Half := BitVec 16

/-- A port-event word (spec/30_encoding.md R68). -/
abbrev Word := BitVec 32

end Sys2Proof
end

