-- ==== Sys2Proof/Config.lean ====
section
/-! DEFINITION. The fixed parameters (spec/00_scope.md R5), the shapes of the open parameters (R6) and the one value
the spec leaves free: which enabled port is served next (spec/20_memory.md R51). -/

namespace Sys2Proof

/-- The two input ports (spec/10_state.md R37). -/
inductive Port where
  | transport
  | host
deriving DecidableEq, Repr

/-- The listener kinds (spec/10_state.md R35). Codes 5 to 7 are never produced (U19) and have no constructor. -/
inductive Kind where
  | generic
  | data
  | ioSample
  | modemStatus
  | discovery
deriving DecidableEq, Repr

/-- One entry of `FRAME_TYPES` (R6): the record kept for a frame-type byte. -/
structure FrameType where
  name : String
  kind : Kind
  hasFid : Bool
  minLen : Nat
deriving DecidableEq, Repr

/-- One clause of `IS_DISCOVERY` (R6, R114) as plain data: the frame type, the least and, when there is one, the greatest
length of the frame data, and bytes required at positions. The predicate holds when some clause of the list holds. Every predicate on a type byte and
frame data of at most 65535 bytes is such a list, one clause for each pair it accepts (log 3). -/
structure DiscoveryClause where
  ft : Byte
  minLen : Nat
  maxLen : Option Nat
  bytes : List (Nat × Byte)
deriving DecidableEq, Repr

/-- The open parameters `FRAME_TYPES`, `IS_DISCOVERY` and `DUAL_KINDS` (R6). The spec: "The model takes these as
arguments"; they stand in `State` because `step` has no other argument (logs 2, 3, 4). -/
structure Params where
  frameTypes : List (Byte × FrameType)
  discovery : List DiscoveryClause
  dualKinds : List Kind
deriving DecidableEq, Repr

/-- `FRAME_TYPES` is a finite map with `min_len` in `1 .. 65535` (R6); its keys are listed in strictly rising order, so
that one map has one list (log 12). -/
def Params.wf (p : Params) : Bool :=
  decide (p.frameTypes.Pairwise fun a b => a.1 < b.1) &&
    p.frameTypes.all fun e => decide (1 ≤ e.2.minLen) && decide (e.2.minLen ≤ 65535)

/-- `FRAME_TYPES[ft]`, when `ft` is in its domain. -/
def Params.frameType (p : Params) (ft : Byte) : Option FrameType :=
  p.frameTypes.lookup ft

/-- `DELIM`, the start delimiter (R5). -/
def Config.delim : Byte := 0x7E

/-- `ESC`, the escape byte (R5). -/
def Config.esc : Byte := 0x7D

/-- `XON` (R5; the name is from general knowledge, G1). -/
def Config.xon : Byte := 0x11

/-- `XOFF` (R5; the name is from general knowledge, G1). -/
def Config.xoff : Byte := 0x13

/-- `ESC_MASK`, the escape XOR mask (R5). -/
def Config.escMask : Byte := 0x20

/-- `ESC_SET`, the bytes escaped in escaped mode (R5). -/
def Config.escSet : List Byte := [0x7E, 0x7D, 0x11, 0x13]

/-- `MAX_LEN`, the largest frame-data length (R5). -/
def Config.maxLen : Nat := 65535

/-- `PBUF_SIZE`, the number of payload-buffer cells (R5, D13). -/
def Config.pbufSize : Nat := 65535

/-- DESIGN CHOICE (log 1): a free value. "Which port goes next is not fixed" (R51): when both heads are enabled, this
says of the `n`-th consumed event whether the HOST port is served. It has no body, so nothing can be proved of it and a
claim about `step` holds under every interleaving. -/
opaque Config.hostFirst : Nat → Bool

end Sys2Proof
end

