-- ==== Sys2Proof/Syntax.lean ====
section
/-! DEFINITION. The instructions: one constructor per row of spec/opcode_table.json. The first fourteen are the port
events (spec/30_encoding.md R69, R70), the next five the wire byte classes (R64), the rest the frame-type rows
(spec/43_dispatcher.md R113, R115). -/

namespace Sys2Proof

inductive Instr where
  /-- `NOP` (R126). -/
  | nop
  /-- `RX_BYTE BYTE` (R100 to R108). -/
  | rxByte (byte : Byte)
  /-- `RX_CLOSE` (R109). -/
  | rxClose
  /-- `DISPATCH_ACK CLAIM` (R120). -/
  | dispatchAck (claim : Bool)
  /-- `TX_START LEN` (R95). -/
  | txStart (len : Half)
  /-- `TX_DATA BYTE` (R96). -/
  | txData (byte : Byte)
  /-- `CSR_WRITE 0x00, DATA` (R128). -/
  | csrWriteCtrl (data : Half)
  /-- `CSR_WRITE 0x01, DATA` (R129). -/
  | csrWriteStatus (data : Half)
  /-- `CSR_WRITE ADDR, DATA` with any other address (R130). -/
  | csrWrite (addr : Byte) (data : Half)
  /-- `CSR_READ ADDR` (R127). -/
  | csrRead (addr : Byte)
  /-- `START` (R131). -/
  | start
  /-- `SOFT_RESET` (R132). -/
  | softReset
  /-- A word with `OP` 0xA or 0xB, its other 29 bits (R133). -/
  | reservedAB (bits : BitVec 29)
  /-- A word with `OP` 0xC to 0xF, its other 30 bits (R133). -/
  | reservedCF (bits : BitVec 30)
  /-- The wire byte `0x7E` (R64). -/
  | delim
  /-- The wire byte `0x7D` (R64). -/
  | escb
  /-- The wire byte `0x11` (R64). -/
  | xon
  /-- The wire byte `0x13` (R64). -/
  | xoff
  /-- Any other wire byte (R64). -/
  | other (byte : Byte)
  | ftTx64
  | ftTx16
  | ftAtCommand
  | ftAtCommandQueue
  | ftTransmitRequest
  | ftExplicitAddressingCommand
  | ftRemoteAtCommandRequest
  | ftUserDataRelay
  | ftRx64
  | ftRx16
  | ftRxIo64
  | ftRxIo16
  | ftAtCommandResponse
  | ftTxStatus
  | ftModemStatus
  | ftTransmitStatus
  | ftReceivePacket
  | ftExplicitRxIndicator
  | ftIoDataSampleRxIndicator
  | ftRemoteAtCommandResponse
  | ftUserDataRelayOutput
  | ftGeneric
  /-- A frame-type byte that has no row of its own (R115). -/
  | ftUnknown (ft : Byte)
deriving DecidableEq, Repr

end Sys2Proof
end

