-- ==== Sys2Proof/WellFormed.lean ====
section
/-! DEFINITION. Which terms of `Instr` are instructions: a catch-all row takes only what no special row takes
("The special rows take precedence", spec/opcode_table.json). Every other operand fills its field (R71). -/

namespace Sys2Proof

/-- The frame-type bytes that have a row of their own (R113). -/
def namedFrameTypes : List Byte :=
  [0x00, 0x01, 0x08, 0x09, 0x10, 0x11, 0x17, 0x2D, 0x80, 0x81, 0x82, 0x83, 0x88, 0x89, 0x8A, 0x8B, 0x90, 0x91, 0x92,
   0x97, 0xAD, 0xFF]

/-- `CSR_WRITE` with a refused address: `0x00` and `0x01` have rows of their own (R128 to R130). -/
def wfCsrWriteAddr (addr : Byte) : Bool :=
  addr != 0x00 && addr != 0x01

/-- The class `OTHER` takes no byte of `ESC_SET` (R64). -/
def wfOtherByte (b : Byte) : Bool :=
  !(b ∈ Config.escSet)

/-- `FT_UNKNOWN` takes no byte with a row of its own (R113, R115). -/
def wfUnknownType (ft : Byte) : Bool :=
  !(ft ∈ namedFrameTypes)

/-- An instruction of the table. -/
def Instr.wf : Instr → Bool
  | .csrWrite addr _ => wfCsrWriteAddr addr
  | .other b => wfOtherByte b
  | .ftUnknown ft => wfUnknownType ft
  | .nop | .rxByte _ | .rxClose | .dispatchAck _ | .txStart _ | .txData _ | .csrWriteCtrl _ | .csrWriteStatus _
  | .csrRead _ | .start | .softReset | .reservedAB _ | .reservedCF _ | .delim | .escb | .xon | .xoff
  | .ftTx64 | .ftTx16 | .ftAtCommand | .ftAtCommandQueue | .ftTransmitRequest | .ftExplicitAddressingCommand
  | .ftRemoteAtCommandRequest | .ftUserDataRelay | .ftRx64 | .ftRx16 | .ftRxIo64 | .ftRxIo16 | .ftAtCommandResponse
  | .ftTxStatus | .ftModemStatus | .ftTransmitStatus | .ftReceivePacket | .ftExplicitRxIndicator
  | .ftIoDataSampleRxIndicator | .ftRemoteAtCommandResponse | .ftUserDataRelayOutput | .ftGeneric => true

end Sys2Proof
end

