-- ==== Sys2Proof/Decode.lean ====
section
/-! DEFINITION. The three decoders of the block and the encoder: port-event words (spec/30_encoding.md R68 to R72), wire
bytes (R64) and frame-type bytes (spec/43_dispatcher.md R113, R115); the default `FRAME_TYPES`, `IS_DISCOVERY` and
`DUAL_KINDS`; and `decodeTableWord`, the decoder of an opcode-table word. -/

namespace Sys2Proof

/-- Why a port word is reserved (R72). Both cases have the effect of R133. -/
inductive DecodeReject where
  /-- It matches no row of R70. -/
  | noRow
  /-- Its row belongs to the other port (R69). -/
  | wrongPort
deriving DecidableEq, Repr

/-- What an instruction is decoded from: a word on a port, a received byte, or the first byte of a validated frame. -/
inductive Code where
  | event (port : Port) (w : Word)
  | wire (b : Byte)
  | frameType (b : Byte)
deriving DecidableEq, Repr

/-- A row of R70: a word matches when `w & mask = pattern`. `port` is the row's port of R69, `none` when the row is
recognised on both (`NOP`, and the reserved codes, which R133 treats alike on both). -/
structure EventRow where
  pattern : Word
  mask : Word
  port : Option Port
  build : Word → Instr

/-- `w & mask = pattern` (R70). -/
def EventRow.hits (r : EventRow) (w : Word) : Bool :=
  w &&& r.mask == r.pattern

/-- `BYTE = w[7:0]` (R71). -/
def fieldByte (w : Word) : Byte := w.extractLsb' 0 8

/-- `CLAIM = w[0]` (R71). -/
def fieldClaim (w : Word) : Bool := w.getLsbD 0

/-- `LEN = w[15:0]` and `DATA = w[15:0]` (R71). -/
def fieldHalf (w : Word) : Half := w.extractLsb' 0 16

/-- `ADDR = w[23:16]` (R71). -/
def fieldAddr (w : Word) : Byte := w.extractLsb' 16 8

/-- R70, in the table's order: the rows `CSR_WRITE` with address 0 and 1 stand before the general row and take
precedence; the last two are the reserved operation codes. -/
def eventRows : List EventRow :=
  [ ⟨0x00000000, 0xFFFFFFFF, none, fun _ => .nop⟩,
    ⟨0x10000000, 0xFFFFFF00, some .transport, fun w => .rxByte (fieldByte w)⟩,
    ⟨0x20000000, 0xFFFFFFFF, some .transport, fun _ => .rxClose⟩,
    ⟨0x30000000, 0xFFFFFFFE, some .host, fun w => .dispatchAck (fieldClaim w)⟩,
    ⟨0x40000000, 0xFFFF0000, some .host, fun w => .txStart (fieldHalf w)⟩,
    ⟨0x50000000, 0xFFFFFF00, some .host, fun w => .txData (fieldByte w)⟩,
    ⟨0x60000000, 0xFFFF0000, some .host, fun w => .csrWriteCtrl (fieldHalf w)⟩,
    ⟨0x60010000, 0xFFFF0000, some .host, fun w => .csrWriteStatus (fieldHalf w)⟩,
    ⟨0x60000000, 0xFF000000, some .host, fun w => .csrWrite (fieldAddr w) (fieldHalf w)⟩,
    ⟨0x70000000, 0xFF00FFFF, some .host, fun w => .csrRead (fieldAddr w)⟩,
    ⟨0x80000000, 0xFFFFFFFF, some .host, fun _ => .start⟩,
    ⟨0x90000000, 0xFFFFFFFF, some .host, fun _ => .softReset⟩,
    ⟨0xA0000000, 0xE0000000, none, fun w => .reservedAB (w.extractLsb' 0 29)⟩,
    ⟨0xC0000000, 0xC0000000, none, fun w => .reservedCF (w.extractLsb' 0 30)⟩ ]

/-- The instruction a word on a port stands for, or why it is reserved (R69, R70, R72). -/
def decodeEvent (p : Port) (w : Word) : Except DecodeReject Instr :=
  match eventRows.find? (·.hits w) with
  | none => .error .noRow
  | some r => if r.port = none ∨ r.port = some p then .ok (r.build w) else .error .wrongPort

/-- The byte class of R64. -/
def decodeWireByte (b : Byte) : Instr :=
  if b = Config.delim then .delim
  else if b = Config.esc then .escb
  else if b = Config.xon then .xon
  else if b = Config.xoff then .xoff
  else .other b

/-- The frame-type rows of the opcode table (R113), by their byte. -/
def frameTypeRows : List (Byte × Instr) :=
  [ (0x00, .ftTx64), (0x01, .ftTx16), (0x08, .ftAtCommand), (0x09, .ftAtCommandQueue), (0x10, .ftTransmitRequest),
    (0x11, .ftExplicitAddressingCommand), (0x17, .ftRemoteAtCommandRequest), (0x2D, .ftUserDataRelay),
    (0x80, .ftRx64), (0x81, .ftRx16), (0x82, .ftRxIo64), (0x83, .ftRxIo16), (0x88, .ftAtCommandResponse),
    (0x89, .ftTxStatus), (0x8A, .ftModemStatus), (0x8B, .ftTransmitStatus), (0x90, .ftReceivePacket),
    (0x91, .ftExplicitRxIndicator), (0x92, .ftIoDataSampleRxIndicator), (0x97, .ftRemoteAtCommandResponse),
    (0xAD, .ftUserDataRelayOutput), (0xFF, .ftGeneric) ]

/-- The frame-type row of a byte: its own, else `FT_UNKNOWN` ("The FT_ rows above take precedence"). -/
def decodeFrameType (b : Byte) : Instr :=
  (frameTypeRows.lookup b).getD (.ftUnknown b)

/-- The decoder: total, and a reserved word is rejected by name. -/
def decode : Code → Except DecodeReject Instr
  | .event p w => decodeEvent p w
  | .wire b => .ok (decodeWireByte b)
  | .frameType b => .ok (decodeFrameType b)

/-- The code of an instruction: the word and port of R69 and R70, the byte of R64, or the byte of R113. `NOP`, which
either port may carry, is given on the HOST port, and so are the reserved codes. -/
def encode : Instr → Code
  | .nop => .event .host 0x00000000
  | .rxByte b => .event .transport (0x100000#24 ++ b)
  | .rxClose => .event .transport 0x20000000
  | .dispatchAck c => .event .host (0x18000000#31 ++ BitVec.ofBool c)
  | .txStart l => .event .host (0x4000#16 ++ l)
  | .txData b => .event .host (0x500000#24 ++ b)
  | .csrWriteCtrl d => .event .host (0x6000#16 ++ d)
  | .csrWriteStatus d => .event .host (0x6001#16 ++ d)
  | .csrWrite a d => .event .host (0x60#8 ++ a ++ d)
  | .csrRead a => .event .host (0x70#8 ++ a ++ 0x0000#16)
  | .start => .event .host 0x80000000
  | .softReset => .event .host 0x90000000
  | .reservedAB x => .event .host (0x5#3 ++ x)
  | .reservedCF x => .event .host (0x3#2 ++ x)
  | .delim => .wire 0x7E
  | .escb => .wire 0x7D
  | .xon => .wire 0x11
  | .xoff => .wire 0x13
  | .other b => .wire b
  | .ftTx64 => .frameType 0x00
  | .ftTx16 => .frameType 0x01
  | .ftAtCommand => .frameType 0x08
  | .ftAtCommandQueue => .frameType 0x09
  | .ftTransmitRequest => .frameType 0x10
  | .ftExplicitAddressingCommand => .frameType 0x11
  | .ftRemoteAtCommandRequest => .frameType 0x17
  | .ftUserDataRelay => .frameType 0x2D
  | .ftRx64 => .frameType 0x80
  | .ftRx16 => .frameType 0x81
  | .ftRxIo64 => .frameType 0x82
  | .ftRxIo16 => .frameType 0x83
  | .ftAtCommandResponse => .frameType 0x88
  | .ftTxStatus => .frameType 0x89
  | .ftModemStatus => .frameType 0x8A
  | .ftTransmitStatus => .frameType 0x8B
  | .ftReceivePacket => .frameType 0x90
  | .ftExplicitRxIndicator => .frameType 0x91
  | .ftIoDataSampleRxIndicator => .frameType 0x92
  | .ftRemoteAtCommandResponse => .frameType 0x97
  | .ftUserDataRelayOutput => .frameType 0xAD
  | .ftGeneric => .frameType 0xFF
  | .ftUnknown b => .frameType b

/-- PRESUMED (log 2): the default `FRAME_TYPES` of R113, which the spec marks "from general knowledge, not in source". -/
def defaultFrameTypes : List (Byte × FrameType) :=
  [ (0x00, ⟨"TX_64", .generic, true, 11⟩),
    (0x01, ⟨"TX_16", .generic, true, 5⟩),
    (0x08, ⟨"AT_COMMAND", .generic, true, 4⟩),
    (0x09, ⟨"AT_COMMAND_QUEUE", .generic, true, 4⟩),
    (0x10, ⟨"TRANSMIT_REQUEST", .generic, true, 14⟩),
    (0x11, ⟨"EXPLICIT_ADDRESSING_COMMAND", .generic, true, 20⟩),
    (0x17, ⟨"REMOTE_AT_COMMAND_REQUEST", .generic, true, 15⟩),
    (0x2D, ⟨"USER_DATA_RELAY", .generic, true, 3⟩),
    (0x80, ⟨"RX_64", .data, false, 11⟩),
    (0x81, ⟨"RX_16", .data, false, 5⟩),
    (0x82, ⟨"RX_IO_64", .ioSample, false, 11⟩),
    (0x83, ⟨"RX_IO_16", .ioSample, false, 5⟩),
    (0x88, ⟨"AT_COMMAND_RESPONSE", .generic, true, 5⟩),
    (0x89, ⟨"TX_STATUS", .generic, true, 3⟩),
    (0x8A, ⟨"MODEM_STATUS", .modemStatus, false, 2⟩),
    (0x8B, ⟨"TRANSMIT_STATUS", .generic, true, 7⟩),
    (0x90, ⟨"RECEIVE_PACKET", .data, false, 12⟩),
    (0x91, ⟨"EXPLICIT_RX_INDICATOR", .data, false, 18⟩),
    (0x92, ⟨"IO_DATA_SAMPLE_RX_INDICATOR", .ioSample, false, 12⟩),
    (0x97, ⟨"REMOTE_AT_COMMAND_RESPONSE", .generic, true, 15⟩),
    (0xAD, ⟨"USER_DATA_RELAY_OUTPUT", .generic, false, 2⟩),
    (0xFF, ⟨"GENERIC", .generic, false, 1⟩) ]

/-- PRESUMED (log 3): the default `IS_DISCOVERY` of R114, an AT-command response to `ND`. -/
def defaultDiscovery : List DiscoveryClause :=
  [⟨0x88, 4, none, [(2, 0x4E), (3, 0x44)]⟩]

/-- The default parameters (R113, R114, R119; logs 2, 3, 4). -/
def defaultParams : Params :=
  ⟨defaultFrameTypes, defaultDiscovery, [.data]⟩

/-- The port R69 gives the operation code of a word: `RX_BYTE` and `RX_CLOSE` on TRANSPORT, the rest on HOST. -/
def portOfWord (w : Word) : Port :=
  if w.extractLsb' 28 4 = 0x1 ∨ w.extractLsb' 28 4 = 0x2 then .transport else .host

/-- DESIGN CHOICE (log 8): what an opcode-table word is a code of, from its width alone. More than 24 bits: a port word,
on the port of its operation code. From 9 to 24 bits (the reader's widths of frame-type rows): the frame type in its
first byte. At most 8 bits, where the table's wire-byte and frame-type rows share words: a special wire byte, else a
frame type with a row of its own, else a wire byte. -/
def tableCode (nbits w : Nat) : Code :=
  let b : Byte := BitVec.ofNat 8 w
  if 24 < nbits then .event (portOfWord (BitVec.ofNat 32 w)) (BitVec.ofNat 32 w)
  else if 8 < nbits then .frameType b
  else if b ∈ Config.escSet then .wire b
  else if b ∈ namedFrameTypes then .frameType b
  else .wire b

/-- The instruction the decoder reads from an opcode-table word. -/
def decodeTableWord (nbits w : Nat) : Option Instr :=
  (decode (tableCode nbits w)).toOption

end Sys2Proof
end

