-- ==== Sys2Proof/Machine/State.lean ====
section
/-! DEFINITION. The state of the block (spec/10_state.md R21 to R38), the reasons a step can stop, and the state after
reset (spec/70_reset_and_hazards.md R171). INVENTORY.md lists every field with its rule and reset value. -/

namespace Sys2Proof.Machine

/-- `RX_STATE` (R24). -/
inductive RxState where
  | idle
  | seek
  | lenHi
  | lenLo
  | payload
  | checksum
  | dispatch
  | stopped
deriving DecidableEq, Repr

/-- The body states: a frame is open (spec/00_scope.md R10). -/
inductive BodyState where
  | lenHi
  | lenLo
  | payload
  | checksum
deriving DecidableEq, Repr

/-- `TX_STATE` (R30). -/
inductive TxState where
  | tIdle
  | tPayload
deriving DecidableEq, Repr

/-- Why a frame was incomplete (spec/60_exceptions.md R150, R153). -/
inductive IncompleteCause where
  | close
  | resync
deriving DecidableEq, Repr

/-- The error and notification events of the `EVT` stream (R150). -/
inductive EvtRecord where
  | invalidDelimiter (byte : Byte)
  | incompleteFrame (state : BodyState) (epend : Bool) (cause : IncompleteCause)
  | checksumError (received expected : Byte) (len : Half)
  | malformedPacket (ftPresent : Bool) (ft : Byte) (len : Half)
  | connectionLost
deriving DecidableEq, Repr

/-- The record an `Offer` and its `Deliver` carry (spec/43_dispatcher.md R118). -/
structure OfferRec where
  ft : Byte
  kind : Kind
  known : Bool
  fidv : Bool
  fid : Byte
  len : Half
  data : List Byte
deriving DecidableEq, Repr

/-- The entries of the `DISP` stream (R38). -/
inductive DispRecord where
  | offer (r : OfferRec)
  | deliver (r : OfferRec) (toWaiter toListeners : Bool)
deriving DecidableEq, Repr

/-- `DREC`, the dispatch record (R35). Its `DATA` is a view of `PBUF` and has no storage. -/
structure Drec where
  ft : Byte
  kind : Kind
  known : Bool
  fidv : Bool
  fid : Byte
  len : Half
deriving DecidableEq, Repr

/-- `PBUF` (R34, spec/20_memory.md R47): the written cells, addresses strictly rising. An unlisted cell is unwritten and
has no value (log 6). -/
abbrev Memory := List Host.Cell

/-- The state: R21's list, the ports and streams of R37 and R38, the open parameters of R6, and `turn`. -/
structure State where
  /-- `CTRL.ESC` (R22). `CTRL[15:2]` has no storage: it reads as 0 and ignores writes. -/
  ctrlEsc : Bool
  /-- `CTRL.RSYNC` (R22). -/
  ctrlRsync : Bool
  /-- `STATUS.TXERR`, sticky (R23). -/
  txerr : Bool
  /-- `STATUS.BADCMD`, sticky (R23). -/
  badcmd : Bool
  /-- `STATUS.CONNLOST`, sticky (R23). -/
  connlost : Bool
  rxState : RxState
  /-- `RX_LESC` (R25). -/
  rxLesc : Bool
  /-- `RX_LRSYNC` (R25). -/
  rxLrsync : Bool
  /-- `RX_EPEND` (R26). -/
  rxEpend : Bool
  /-- `RX_LEN` (R27). -/
  rxLen : Half
  /-- `RX_CNT` (R28). -/
  rxCnt : Half
  /-- `RX_SUM` (R29). -/
  rxSum : Byte
  txState : TxState
  /-- `TX_LESC` (R31). -/
  txLesc : Bool
  /-- `TX_REM` (R32). -/
  txRem : Half
  /-- `TX_SUM` (R33). -/
  txSum : Byte
  pbuf : Memory
  drec : Drec
  /-- `CNT_FRAMES` (R36). -/
  cntFrames : Half
  /-- `CNT_INVDELIM` (R36). -/
  cntInvdelim : Half
  /-- `CNT_INCOMPLETE` (R36). -/
  cntIncomplete : Half
  /-- `CNT_CKSUM` (R36). -/
  cntCksum : Half
  /-- `CNT_MALFORMED` (R36). -/
  cntMalformed : Half
  /-- The TRANSPORT port, its head first (R37). -/
  transport : List Word
  /-- The HOST port, its head first (R37). -/
  host : List Word
  /-- The stream `TXO`, oldest first (R38). -/
  txo : List Byte
  /-- The stream `EVT`, oldest first (R38). -/
  evt : List EvtRecord
  /-- The stream `DISP`, oldest first (R38). -/
  disp : List DispRecord
  /-- The stream `CSRO`, oldest first (R38). -/
  csro : List Half
  /-- The open parameters (R6); no rule writes them (R172). -/
  params : Params
  /-- The model's own: how many events have been consumed. It indexes the free value `Config.hostFirst` (log 1). -/
  turn : Nat
deriving DecidableEq, Repr

/-- Why the machine stops. None is an effect of an instruction: the block has no traps (R160). -/
inductive Fault where
  /-- Raised by `step` when both ports are empty: the run has ended (R182, log 10). Safe: there is no event to consume. -/
  | endOfRun
  /-- Raised by `step` when the only waiting event is on the TRANSPORT port in `DISPATCH` (R102, R182), and by a
  receive-side meaning asked to run in `DISPATCH`: its step is not enabled (R52, log 10). U12 calls it stuck. Safe: the block
  makes no such step. -/
  | transportHeld
  /-- Raised by a read of an unwritten `PBUF` cell, which no rule makes (R34, R47). Safe: no reachable state raises
  it, and the model gives no value where the block has none (log 6). -/
  | pbufUnwritten
deriving DecidableEq, Repr

/-- Refusals. The model raises none. -/
inductive Refusal where
  /-- An instruction without a meaning yet; no arm of `exec` answers it. Safe: nothing is claimed of it. -/
  | notModelled (mnemonic : String)
deriving DecidableEq, Repr

/-- The state after power-on: every element of R171 at the value stated there, empty ports and streams, the default
parameters. -/
def State.reset : State where
  ctrlEsc := false
  ctrlRsync := false
  txerr := false
  badcmd := false
  connlost := false
  rxState := .idle
  rxLesc := false
  rxLrsync := false
  rxEpend := false
  rxLen := 0
  rxCnt := 0
  rxSum := 0
  txState := .tIdle
  txLesc := false
  txRem := 0
  txSum := 0
  pbuf := []
  drec := ⟨0, .generic, false, false, 0, 0⟩
  cntFrames := 0
  cntInvdelim := 0
  cntIncomplete := 0
  cntCksum := 0
  cntMalformed := 0
  transport := []
  host := []
  txo := []
  evt := []
  disp := []
  csro := []
  params := defaultParams
  turn := 0

/-- The outcome of one event. -/
abbrev Outcome := Host.Outcome State Fault Refusal

end Sys2Proof.Machine
end

