-- ==== Sys2Proof/Machine/ByteCodec.lean ====
section
/-! DEFINITION. The byte-codec functions (spec/40_bytecodec.md R80 to R90): pure, total, without state. -/

namespace Sys2Proof.Machine

/-- `ESC_BYTE(v, e)` (R80). -/
def escByte (v : Byte) (e : Bool) : List Byte :=
  if e = true ∧ v ∈ Config.escSet then [Config.esc, v ^^^ Config.escMask] else [v]

/-- `ESCAPE(s, e)` (R81). -/
def escape : List Byte → Bool → List Byte
  | [], _ => []
  | v :: t, e => escByte v e ++ escape t e

/-- `UNESCAPE(s, e)` (R82); `none` is `IncompleteEscape`. -/
def unescape : List Byte → Bool → Option (List Byte)
  | [], _ => some []
  | [v], e => if e = true ∧ v = Config.esc then none else some [v]
  | v :: x :: t, e =>
    if e = true ∧ v = Config.esc then (unescape t e).map ((x ^^^ Config.escMask) :: ·)
    else (unescape (x :: t) e).map (v :: ·)

/-- `SUM8(d)` (R85): the sum modulo 256. -/
def sum8 : List Byte → Byte
  | [] => 0
  | b :: t => b + sum8 t

/-- `CKSUM(d)` (R85). -/
def cksum (d : List Byte) : Byte :=
  0xFF - sum8 d

/-- `VERIFY(d, c)` (R86). -/
def verify (d : List Byte) (c : Byte) : Bool :=
  sum8 d + c == 0xFF

/-- `v[15:8]` of a length (R48). -/
def hiByte (v : Half) : Byte := v.extractLsb' 8 8

/-- `v[7:0]` of a length (R48). -/
def loByte (v : Half) : Byte := v.extractLsb' 0 8

/-- `BE16(v)` (R88). -/
def be16 (v : Half) : List Byte :=
  [hiByte v, loByte v]

/-- `UNBE16(s)` (R88), of at most two bytes, padded with zero bytes on the left; `none` of more. -/
def unbe16 : List Byte → Option Half
  | [] => some 0
  | [l] => some (0x00#8 ++ l)
  | [h, l] => some (h ++ l)
  | _ => none

/-- `FRAME(d, e)` (R89), of at most 65535 bytes (log 12). -/
def frame (d : List Byte) (e : Bool) : List Byte :=
  Config.delim :: escape (be16 (BitVec.ofNat 16 d.length) ++ d ++ [cksum d]) e

/-- The result of `DEFRAME` (R90). -/
inductive Deframed where
  | ok (d rest : List Byte)
  | invalidDelimiter
  | incompleteFrame
  | checksumError (rest : List Byte)
deriving DecidableEq, Repr

/-- One value byte from the front, as `UNESCAPE` reads it, and the rest; `none` when the input ends first (R90). -/
def takeValue : List Byte → Bool → Option (Byte × List Byte)
  | [], _ => none
  | [v], e => if e = true ∧ v = Config.esc then none else some (v, [])
  | v :: x :: t, e => if e = true ∧ v = Config.esc then some (x ^^^ Config.escMask, t) else some (v, x :: t)

/-- `VALUES(k, s)` (R90); `none` is `IncompleteFrame`. -/
def takeValues : Nat → List Byte → Bool → Option (List Byte × List Byte)
  | 0, s, _ => some ([], s)
  | k + 1, s, e =>
    match takeValue s e with
    | none => none
    | some (v, r) =>
      match takeValues k r e with
      | none => none
      | some (vs, r') => some (v :: vs, r')

/-- `DEFRAME` after its delimiter: length, data, checksum (R90). -/
def deframeBody (t : List Byte) (e : Bool) : Deframed :=
  match takeValues 2 t e with
  | some ([h, l], t1) =>
    match takeValues (h ++ l : Half).toNat t1 e with
    | none => .incompleteFrame
    | some (d, t2) =>
      match takeValue t2 e with
      | none => .incompleteFrame
      | some (c, t3) => if verify d c then .ok d t3 else .checksumError t3
  | _ => .incompleteFrame

/-- `DEFRAME(w, e)` (R90). -/
def deframe : List Byte → Bool → Deframed
  | [], _ => .incompleteFrame
  | b :: t, e => if b = Config.delim then deframeBody t e else .invalidDelimiter

end Sys2Proof.Machine
end

