-- ==== Sys2Proof/Machine/Flags.lean ====
section
/-! DEFINITION. The register views and the sticky flags: `CTRL`, `STATUS`, `DREC_INFO` (spec/10_state.md R22, R23, R35),
the CSR map (R21, spec/44_control.md R127), and the setting and clearing of `TXERR`, `BADCMD`, `CONNLOST` (R39). -/

namespace Sys2Proof.Machine

/-- The code of `RX_STATE` (R24). -/
def rxStateCode : RxState → BitVec 3
  | .idle => 0
  | .seek => 1
  | .lenHi => 2
  | .lenLo => 3
  | .payload => 4
  | .checksum => 5
  | .dispatch => 6
  | .stopped => 7

/-- The code of `TX_STATE` (R30). -/
def txStateCode : TxState → BitVec 1
  | .tIdle => 0
  | .tPayload => 1

/-- The code of a listener kind (R35). -/
def kindCode : Kind → BitVec 3
  | .generic => 0
  | .data => 1
  | .ioSample => 2
  | .modemStatus => 3
  | .discovery => 4

/-- The code of an event (spec/60_exceptions.md R151). Codes 0 and 6 to 15 are never emitted. -/
def evtCode : EvtRecord → BitVec 4
  | .invalidDelimiter _ => 1
  | .incompleteFrame _ _ _ => 2
  | .checksumError _ _ _ => 3
  | .malformedPacket _ _ _ => 4
  | .connectionLost => 5

/-- `CTRL` as a 16-bit register: its reserved bits read as 0 (R22). -/
def ctrlWord (s : State) : Half :=
  0#14 ++ BitVec.ofBool s.ctrlRsync ++ BitVec.ofBool s.ctrlEsc

/-- `STATUS` as a 16-bit register: the sticky bits and the mirrored fields (R23). -/
def statusWord (s : State) : Half :=
  0#6 ++ BitVec.ofBool s.txLesc ++ BitVec.ofBool s.rxLesc ++ BitVec.ofBool s.connlost ++ BitVec.ofBool s.badcmd ++
    BitVec.ofBool s.txerr ++ txStateCode s.txState ++ BitVec.ofBool s.rxEpend ++ rxStateCode s.rxState

/-- `DREC_INFO` as a 16-bit register (R35). -/
def drecInfoWord (d : Drec) : Half :=
  0#3 ++ BitVec.ofBool d.fidv ++ BitVec.ofBool d.known ++ kindCode d.kind ++ d.ft

/-- The CSR map (R21, R127): every mapped address with the 16 bits it reads as. Other addresses are reserved. -/
def csrMap (s : State) : List (Byte × Half) :=
  [ (0x00, ctrlWord s),
    (0x01, statusWord s),
    (0x02, s.rxLen),
    (0x03, s.rxCnt),
    (0x04, s.rxSum.setWidth 16),
    (0x05, s.txRem),
    (0x06, s.txSum.setWidth 16),
    (0x07, drecInfoWord s.drec),
    (0x08, s.drec.fid.setWidth 16),
    (0x09, s.drec.len),
    (0x10, s.cntFrames),
    (0x11, s.cntInvdelim),
    (0x12, s.cntIncomplete),
    (0x13, s.cntCksum),
    (0x14, s.cntMalformed) ]

/-- What a CSR reads as; `none` when the address is reserved (R127). -/
def csrValue (addr : Byte) (s : State) : Option Half :=
  (csrMap s).lookup addr

/-- A refused `TX_START` or `TX_DATA` (R157). -/
def setTxerr (s : State) : State := { s with txerr := true }

/-- A reserved word or CSR access, a refused write, or an acknowledge with nothing offered (R157). -/
def setBadcmd (s : State) : State := { s with badcmd := true }

/-- The transport closed (R156). -/
def setConnlost (s : State) : State := { s with connlost := true }

/-- Write 1 to clear: bits 5, 6 and 7 of the data clear `TXERR`, `BADCMD` and `CONNLOST` (R129). -/
def clearSticky (data : Half) (s : State) : State :=
  { s with
    txerr := s.txerr && !data.getLsbD 5
    badcmd := s.badcmd && !data.getLsbD 6
    connlost := s.connlost && !data.getLsbD 7 }

/-- The `CTRL` fields take bits 0 and 1 of the data; the other bits are ignored (R128). -/
def writeCtrl (data : Half) (s : State) : State :=
  { s with ctrlEsc := data.getLsbD 0, ctrlRsync := data.getLsbD 1 }

end Sys2Proof.Machine
end

