-- ==== Sys2Proof/Machine/Ops.lean ====
section
/-! DEFINITION. The named operations the meanings are written with: the payload buffer (spec/20_memory.md R47), the output
streams (spec/10_state.md R38), the raising of each error event with its counter and flag, which is this block's taking
of an exception (spec/60_exceptions.md R150 to R156; R160: nothing else is saved, R161: there is no return), the opening
of a frame (spec/42_rx_deframer.md R101) and reset (spec/70_reset_and_hazards.md R171). -/

namespace Sys2Proof.Machine

/-- `PBUF[a]`: the byte of a written cell (R8). -/
def Memory.read (m : Memory) (a : Nat) : Option Byte :=
  List.lookup a m

/-- `PBUF[a] <- b`: the cell becomes written (R8). -/
def Memory.write (a : Nat) (b : Byte) : Memory → Memory
  | [] => [(a, b)]
  | (k, v) :: t =>
    if a < k then (a, b) :: (k, v) :: t
    else if a = k then (a, b) :: t
    else (k, v) :: Memory.write a b t

/-- `[PBUF[a], ..., PBUF[a+n-1]]`; `none` when one of these cells is unwritten. -/
def Memory.readRange (m : Memory) : Nat → Nat → Option (List Byte)
  | _, 0 => some []
  | a, n + 1 =>
    match Memory.read m a with
    | none => none
    | some b =>
      match Memory.readRange m (a + 1) n with
      | none => none
      | some bs => some (b :: bs)

/-- The cells `a, a+1, ...` holding the bytes of a list. -/
def Memory.ofBytes : Nat → List Byte → Memory
  | _, [] => []
  | a, b :: t => (a, b) :: Memory.ofBytes (a + 1) t

/-- The canonical form: addresses strictly rising, all in `0 .. 65534` (R47). No listed entry can equal what an unlisted
cell reads as, since that is no value. -/
def Memory.wf (m : Memory) : Bool :=
  decide (m.Pairwise fun x y => x.1 < y.1) && m.all fun x => decide (x.1 < Config.pbufSize)

/-- `emit TXO(b)` for each byte of a list (R8). -/
def emitTxo (bs : List Byte) (s : State) : State := { s with txo := s.txo ++ bs }

/-- `emit DISP(r)` (R8). -/
def emitDisp (r : DispRecord) (s : State) : State := { s with disp := s.disp ++ [r] }

/-- `emit CSRO(v)` (R8). -/
def emitCsro (v : Half) (s : State) : State := { s with csro := s.csro ++ [v] }

/-- `raise E` (R8, R150): append to `EVT`; nothing else changes. -/
def raise (e : EvtRecord) (s : State) : State := { s with evt := s.evt ++ [e] }

/-- `goto X` (R8). -/
def goto (x : RxState) (s : State) : State := { s with rxState := x }

/-- `InvalidDelimiter` (R152): the event and its counter. -/
def raiseInvalidDelimiter (b : Byte) (s : State) : State :=
  raise (.invalidDelimiter b) { s with cntInvdelim := s.cntInvdelim + 1 }

/-- `IncompleteFrame` (R153): the event, with the body state reached and `RX_EPEND`, and its counter. -/
def raiseIncompleteFrame (x : BodyState) (cause : IncompleteCause) (s : State) : State :=
  raise (.incompleteFrame x s.rxEpend cause) { s with cntIncomplete := s.cntIncomplete + 1 }

/-- `ChecksumError` (R154): the event, with the checksum received and the one that would have passed, and its counter. -/
def raiseChecksumError (v : Byte) (s : State) : State :=
  raise (.checksumError v (0xFF - s.rxSum) s.rxLen) { s with cntCksum := s.cntCksum + 1 }

/-- `MalformedPacket` (R155): the event and its counter. -/
def raiseMalformedPacket (ftPresent : Bool) (ft : Byte) (s : State) : State :=
  raise (.malformedPacket ftPresent ft s.rxLen) { s with cntMalformed := s.cntMalformed + 1 }

/-- `ConnectionLost` (R156): the event and `STATUS.CONNLOST`. -/
def raiseConnectionLost (s : State) : State :=
  raise .connectionLost (setConnlost s)

/-- The receive registers of a frame go to zero and every `PBUF` cell becomes unwritten (R101, R131). -/
def clearReceive (s : State) : State :=
  { s with rxLen := 0, rxCnt := 0, rxSum := 0, rxEpend := false, pbuf := [] }

/-- `OPEN_FRAME()` (R101): sample `CTRL`, clear, go to `LEN_HI`. -/
def openFrame (s : State) : State :=
  goto .lenHi (clearReceive { s with rxLesc := s.ctrlEsc, rxLrsync := s.ctrlRsync })

/-- `RESYNC()` (R104): the open frame is incomplete and the delimiter opens a new one. -/
def resync (x : BodyState) (s : State) : State :=
  openFrame (raiseIncompleteFrame x .resync s)

/-- `RESET()` (R171). It leaves the ports, the emitted streams and the parameters (R172), and `turn`. -/
def resetBlock (s : State) : State :=
  { State.reset with
    transport := s.transport
    host := s.host
    txo := s.txo
    evt := s.evt
    disp := s.disp
    csro := s.csro
    params := s.params
    turn := s.turn }

end Sys2Proof.Machine
end

