-- ==== Sys2Proof/Machine/Operands.lean ====
section
/-! DEFINITION. The operands of the receive side: the value byte a wire byte stands for (spec/30_encoding.md R64,
spec/42_rx_deframer.md R103), and the frame data the dispatcher reads (spec/20_memory.md R47). -/

namespace Sys2Proof.Machine

/-- The value of a received byte that is neither an escape byte nor a resync (R103): XORed with `0x20` after an escape
byte, else as received. -/
def valueByte (b : Byte) (s : State) : Byte :=
  if s.rxLesc = true ∧ s.rxEpend = true then b ^^^ Config.escMask else b

/-- `[PBUF[0], ..., PBUF[RX_LEN-1]]`, the frame data of R117; `none` when a cell is unwritten, which no run shows. -/
def frameData (s : State) : Option (List Byte) :=
  Memory.readRange s.pbuf 0 s.rxLen.toNat

/-- `[PBUF[0], ..., PBUF[DREC.LEN-1]]`, the `DATA` of the dispatch record (R35, R120). -/
def drecData (s : State) : Option (List Byte) :=
  Memory.readRange s.pbuf 0 s.drec.len.toNat

end Sys2Proof.Machine
end

