-- ==== Sys2Proof/Machine/Control.lean ====
section
/-! DEFINITION. The control events (spec/44_control.md R126 to R133). -/

namespace Sys2Proof.Machine

/-- `NOP` (R126): no effect. On the TRANSPORT port it is held in `DISPATCH` like every event there (R102): the port
selection does that (Ports.lean), since the instruction does not say its port. -/
def execNop (s : State) : Outcome := .next s

/-- `CSR_WRITE 0x00, DATA` (R128). -/
def execCsrWriteCtrl (data : Half) (s : State) : Outcome := .next (writeCtrl data s)

/-- `CSR_WRITE 0x01, DATA` (R129). -/
def execCsrWriteStatus (data : Half) (s : State) : Outcome := .next (clearSticky data s)

/-- `CSR_WRITE ADDR, DATA` (R128 to R130): any address but `0x00` and `0x01` is refused with `BADCMD`. -/
def execCsrWrite (addr : Byte) (data : Half) (s : State) : Outcome :=
  if addr = 0x00 then .next (writeCtrl data s)
  else if addr = 0x01 then .next (clearSticky data s)
  else .next (setBadcmd s)

/-- `CSR_READ ADDR` (R127): exactly one `CSRO` entry; a reserved address reads as 0 and sets `BADCMD`. -/
def execCsrRead (addr : Byte) (s : State) : Outcome :=
  match csrValue addr s with
  | some v => .next (emitCsro v s)
  | none => .next (setBadcmd (emitCsro 0 s))

/-- `START` (R131): from `IDLE` or `STOPPED` to `SEEK`; elsewhere no effect. -/
def execStart (s : State) : Outcome :=
  match s.rxState with
  | .idle => .next (goto .seek (clearReceive s))
  | .stopped => .next (goto .seek (clearReceive s))
  | .seek | .lenHi | .lenLo | .payload | .checksum | .dispatch => .next s

/-- `SOFT_RESET` (R132). -/
def execSoftReset (s : State) : Outcome := .next (resetBlock s)

/-- The effect of a reserved word (R133): `BADCMD`, nothing else. -/
def reservedWord (s : State) : Outcome := .next (setBadcmd s)

/-- Row `RESERVED_A_B` (R133). -/
def execReservedAB (_bits : BitVec 29) (s : State) : Outcome := reservedWord s

/-- Row `RESERVED_C_F` (R133). -/
def execReservedCF (_bits : BitVec 30) (s : State) : Outcome := reservedWord s

end Sys2Proof.Machine
end

