-- ==== Sys2Proof/Machine/Ports.lean ====
section
/-! DEFINITION. The input ports: which head is enabled, which port is served (spec/20_memory.md R51,
R52), consuming it, and where a code is put so that the block fetches it. -/

namespace Sys2Proof.Machine

/-- The events waiting on a port, its head first (R37). -/
def portQueue (p : Port) (s : State) : List Word :=
  match p with
  | .transport => s.transport
  | .host => s.host

/-- The head event of the TRANSPORT port is not enabled in `DISPATCH`; every other head is (R52). -/
def portEnabled (p : Port) (s : State) : Bool :=
  !(portQueue p s).isEmpty && !(decide (p = .transport) && decide (s.rxState = .dispatch))

/-- The port that is served: the enabled one; of two, the free value's choice (R51, log 1); `none` when no head is
enabled (R182). -/
def selectPort (s : State) : Option Port :=
  match portEnabled .transport s, portEnabled .host s with
  | false, false => none
  | true, false => some .transport
  | false, true => some .host
  | true, true => if Config.hostFirst s.turn then some .host else some .transport

/-- The head event leaves its port (R51). -/
def consume (p : Port) (s : State) : State :=
  match p with
  | .transport => { s with transport := s.transport.tail, turn := s.turn + 1 }
  | .host => { s with host := s.host.tail, turn := s.turn + 1 }

/-- Why no event is consumed: the run has ended, or the TRANSPORT head is held (R182). -/
def stalled (s : State) : Fault :=
  if s.transport.isEmpty then .endOfRun else .transportHeld

/-- A word is put at the head of a port, and the other port is emptied so that the next step consumes it. -/
def placeWord (p : Port) (w : Word) (s : State) : State :=
  match p with
  | .transport => { s with transport := w :: s.transport, host := [] }
  | .host => { s with host := w :: s.host, transport := [] }

/-- The port word `RX_BYTE b` (R70). -/
def rxByteWord (b : Byte) : Word := 0x100000#24 ++ b

/-- The receive side holding a whole frame of 20 bytes, its type byte and zeros, in API mode, and its checksum byte at
the head of the TRANSPORT port: the next step passes the checksum and fetches the type byte (R108, R117; log 8). Twenty
bytes is the longest `min_len` of the default table. -/
def placeFrame (ft : Byte) (s : State) : State :=
  let d := ft :: List.replicate 19 0x00#8
  placeWord .transport (rxByteWord (cksum d))
    { s with
      rxState := .checksum
      rxLesc := false
      rxLrsync := false
      rxEpend := false
      rxLen := BitVec.ofNat 16 d.length
      rxCnt := BitVec.ofNat 16 d.length
      rxSum := sum8 d
      pbuf := Memory.ofBytes 0 d }

/-- A code where the block fetches it: a port word on its port, a wire byte as an `RX_BYTE`, a frame type as the first
byte of a frame whose checksum is next. -/
def placeCode (c : Code) (s : State) : State :=
  match c with
  | .event p w => placeWord p w s
  | .wire b => placeWord .transport (rxByteWord b) s
  | .frameType b => placeFrame b s

end Sys2Proof.Machine
end

