-- ==== Sys2Proof/Machine/Dispatcher.lean ====
section
/-! DEFINITION. The packet-type dispatcher (spec/43_dispatcher.md): `CLASSIFY`, `MALFORMED`, `ROUTE`, the frame-type rows,
`VALIDATE` and `DISPATCH_ACK`. Everything here reads the parameters from `State.params`; no meaning uses the default
table (R113: "A model must take the table as an argument"). -/

namespace Sys2Proof.Machine

/-- One clause of `IS_DISCOVERY` holds of a type byte and frame data (R114). -/
def clauseHolds (c : DiscoveryClause) (ft : Byte) (d : List Byte) : Bool :=
  decide (ft = c.ft) && decide (c.minLen ≤ d.length) && c.maxLen.all (fun m => decide (d.length ≤ m)) &&
    c.bytes.all fun p => d[p.1]? == some p.2

/-- `IS_DISCOVERY(ft, d)` (R114). -/
def isDiscovery (p : Params) (ft : Byte) (d : List Byte) : Bool :=
  p.discovery.any fun c => clauseHolds c ft d

/-- The result of `CLASSIFY` (R115). -/
structure Classification where
  known : Bool
  kind : Kind
  fidv : Bool
  fid : Byte
deriving DecidableEq, Repr

/-- `CLASSIFY(d)` of frame data whose type byte is `ft` (R115). The frame id is the second byte (D30, log 9). -/
def classifyAs (p : Params) (ft : Byte) (d : List Byte) : Classification :=
  let entry := p.frameType ft
  let fidv := (entry.map FrameType.hasFid).getD false && decide (2 ≤ d.length)
  { known := entry.isSome
    kind := if isDiscovery p ft d then .discovery else (entry.map FrameType.kind).getD .generic
    fidv := fidv
    fid := if fidv then d.getD 1 0 else 0 }

/-- `CLASSIFY(d)` (R115), defined for at least one byte. -/
def classify (p : Params) : List Byte → Option Classification
  | [] => none
  | ft :: t => some (classifyAs p ft (ft :: t))

/-- `|d| < FRAME_TYPES[ft].min_len` with `ft` in the table (R116): too short for its declared type. -/
def tooShort (p : Params) (ft : Byte) (d : List Byte) : Bool :=
  match p.frameType ft with
  | none => false
  | some t => decide (d.length < t.minLen)

/-- `MALFORMED(d)` (R116). -/
def malformed (p : Params) : List Byte → Bool
  | [] => true
  | ft :: t => tooShort p ft (ft :: t)

/-- `ROUTE(kind, claim)` (R119): `(to_waiter, to_listeners)`. -/
def route (dualKinds : List Kind) (kind : Kind) (claim : Bool) : Bool × Bool :=
  (claim, !claim || decide (kind ∈ dualKinds))

/-- The record offered for frame data of type `ft` (R117, R118). -/
def offerOf (c : Classification) (ft : Byte) (len : Half) (d : List Byte) : OfferRec :=
  ⟨ft, c.kind, c.known, c.fidv, c.fid, len, d⟩

/-- A malformed frame (R117): the event and its counter, no `DISP` output, back to `SEEK`. -/
def rejectFrame (ftPresent : Bool) (ft : Byte) (s : State) : State :=
  goto .seek (raiseMalformedPacket ftPresent ft s)

/-- A valid frame (R117): write `DREC`, count it, offer it, go to `DISPATCH`. -/
def offerFrame (ft : Byte) (d : List Byte) (s : State) : State :=
  let c := classifyAs s.params ft d
  goto .dispatch
    (emitDisp (.offer (offerOf c ft s.rxLen d))
      { s with
        drec := ⟨ft, c.kind, c.known, c.fidv, c.fid, s.rxLen⟩
        cntFrames := s.cntFrames + 1 })

/-- `VALIDATE()` on frame data whose type byte is `ft` (R117): what every frame-type row does, with the entry the
parameter `FRAME_TYPES` has for its byte. -/
def dispatchFrame (ft : Byte) (s : State) : Outcome :=
  match frameData s with
  | none => .fault .pbufUnwritten
  | some [] => .next (rejectFrame false 0 s)
  | some d => if tooShort s.params ft d then .next (rejectFrame true ft s) else .next (offerFrame ft d s)

/-- Row `FT_TX_64` (R113). -/
def execFtTx64 (s : State) : Outcome := dispatchFrame 0x00 s
/-- Row `FT_TX_16` (R113). -/
def execFtTx16 (s : State) : Outcome := dispatchFrame 0x01 s
/-- Row `FT_AT_COMMAND` (R113). -/
def execFtAtCommand (s : State) : Outcome := dispatchFrame 0x08 s
/-- Row `FT_AT_COMMAND_QUEUE` (R113). -/
def execFtAtCommandQueue (s : State) : Outcome := dispatchFrame 0x09 s
/-- Row `FT_TRANSMIT_REQUEST` (R113). -/
def execFtTransmitRequest (s : State) : Outcome := dispatchFrame 0x10 s
/-- Row `FT_EXPLICIT_ADDRESSING_COMMAND` (R113). -/
def execFtExplicitAddressingCommand (s : State) : Outcome := dispatchFrame 0x11 s
/-- Row `FT_REMOTE_AT_COMMAND_REQUEST` (R113). -/
def execFtRemoteAtCommandRequest (s : State) : Outcome := dispatchFrame 0x17 s
/-- Row `FT_USER_DATA_RELAY` (R113). -/
def execFtUserDataRelay (s : State) : Outcome := dispatchFrame 0x2D s
/-- Row `FT_RX_64` (R113). -/
def execFtRx64 (s : State) : Outcome := dispatchFrame 0x80 s
/-- Row `FT_RX_16` (R113). -/
def execFtRx16 (s : State) : Outcome := dispatchFrame 0x81 s
/-- Row `FT_RX_IO_64` (R113). -/
def execFtRxIo64 (s : State) : Outcome := dispatchFrame 0x82 s
/-- Row `FT_RX_IO_16` (R113). -/
def execFtRxIo16 (s : State) : Outcome := dispatchFrame 0x83 s
/-- Row `FT_AT_COMMAND_RESPONSE` (R113, R114). -/
def execFtAtCommandResponse (s : State) : Outcome := dispatchFrame 0x88 s
/-- Row `FT_TX_STATUS` (R113). -/
def execFtTxStatus (s : State) : Outcome := dispatchFrame 0x89 s
/-- Row `FT_MODEM_STATUS` (R113). -/
def execFtModemStatus (s : State) : Outcome := dispatchFrame 0x8A s
/-- Row `FT_TRANSMIT_STATUS` (R113). -/
def execFtTransmitStatus (s : State) : Outcome := dispatchFrame 0x8B s
/-- Row `FT_RECEIVE_PACKET` (R113). -/
def execFtReceivePacket (s : State) : Outcome := dispatchFrame 0x90 s
/-- Row `FT_EXPLICIT_RX_INDICATOR` (R113). -/
def execFtExplicitRxIndicator (s : State) : Outcome := dispatchFrame 0x91 s
/-- Row `FT_IO_DATA_SAMPLE_RX_INDICATOR` (R113). -/
def execFtIoDataSampleRxIndicator (s : State) : Outcome := dispatchFrame 0x92 s
/-- Row `FT_REMOTE_AT_COMMAND_RESPONSE` (R113). -/
def execFtRemoteAtCommandResponse (s : State) : Outcome := dispatchFrame 0x97 s
/-- Row `FT_USER_DATA_RELAY_OUTPUT` (R113). -/
def execFtUserDataRelayOutput (s : State) : Outcome := dispatchFrame 0xAD s
/-- Row `FT_GENERIC` (R113). -/
def execFtGeneric (s : State) : Outcome := dispatchFrame 0xFF s
/-- Row `FT_UNKNOWN` (R115): a type byte without a row of its own. Whether it is recognised is for the parameter
`FRAME_TYPES` to say; when it is not, the frame is opaque, never malformed and offered unchanged (R116, R121). -/
def execFtUnknown (ft : Byte) (s : State) : Outcome := dispatchFrame ft s

/-- The multiplexer on the frame-type byte: the meaning of each row, by its byte. -/
def frameTypeArms : List (Byte × (State → Outcome)) :=
  [ (0x00, execFtTx64), (0x01, execFtTx16), (0x08, execFtAtCommand), (0x09, execFtAtCommandQueue),
    (0x10, execFtTransmitRequest), (0x11, execFtExplicitAddressingCommand), (0x17, execFtRemoteAtCommandRequest),
    (0x2D, execFtUserDataRelay), (0x80, execFtRx64), (0x81, execFtRx16), (0x82, execFtRxIo64), (0x83, execFtRxIo16),
    (0x88, execFtAtCommandResponse), (0x89, execFtTxStatus), (0x8A, execFtModemStatus), (0x8B, execFtTransmitStatus),
    (0x90, execFtReceivePacket), (0x91, execFtExplicitRxIndicator), (0x92, execFtIoDataSampleRxIndicator),
    (0x97, execFtRemoteAtCommandResponse), (0xAD, execFtUserDataRelayOutput), (0xFF, execFtGeneric) ]

/-- The row of a type byte is run; a byte without a row runs `FT_UNKNOWN`. -/
def muxFrameType (ft : Byte) (s : State) : Outcome :=
  match frameTypeArms.lookup ft with
  | some arm => arm s
  | none => execFtUnknown ft s

/-- `VALIDATE()` (R117), run when a checksum has passed: an empty frame has no type byte and is malformed (R116, D12);
any other runs the row of its first byte. -/
def validate (s : State) : Outcome :=
  match frameData s with
  | none => .fault .pbufUnwritten
  | some [] => .next (rejectFrame false 0 s)
  | some (ft :: _) => muxFrameType ft s

/-- The record of a `Deliver`: the fields of `DREC` and its `DATA` (R120). -/
def deliverRec (r : Drec) (d : List Byte) : OfferRec :=
  ⟨r.ft, r.kind, r.known, r.fidv, r.fid, r.len, d⟩

/-- `DISPATCH_ACK CLAIM` (R120). -/
def execDispatchAck (claim : Bool) (s : State) : Outcome :=
  if s.rxState = .dispatch then
    match drecData s with
    | none => .fault .pbufUnwritten
    | some d =>
      let dest := route s.params.dualKinds s.drec.kind claim
      .next (goto .seek (emitDisp (.deliver (deliverRec s.drec d) dest.1 dest.2) s))
  else .next (setBadcmd s)

end Sys2Proof.Machine
end

