-- ==== Sys2Proof/Machine/RxDeframer.lean ====
section
/-! DEFINITION. The RX deframer (spec/42_rx_deframer.md): the accept rules, the wire byte classes of
spec/30_encoding.md R64, `RX_BYTE` and `RX_CLOSE`. -/

namespace Sys2Proof.Machine

/-- `ACCEPT_LEN_HI(v)` (R105). -/
def acceptLenHi (v : Byte) (s : State) : State :=
  goto .lenLo { s with rxLen := v ++ 0x00#8 }

/-- `ACCEPT_LEN_LO(v)` (R106). -/
def acceptLenLo (v : Byte) (s : State) : State :=
  let len : Half := hiByte s.rxLen ++ v
  goto (if len = 0 then .checksum else .payload) { s with rxLen := len }

/-- `ACCEPT_PAYLOAD(v)` (R107). Its guard `RX_CNT < RX_LEN` "always holds in PAYLOAD"; where it does not, in states no
run reaches, the rule has no effect (R9; log 7). -/
def acceptPayload (v : Byte) (s : State) : State :=
  if s.rxCnt < s.rxLen then
    let n := s.rxCnt + 1
    goto (if n = s.rxLen then .checksum else s.rxState)
      { s with pbuf := Memory.write s.rxCnt.toNat v s.pbuf, rxSum := s.rxSum + v, rxCnt := n }
  else s

/-- `ACCEPT_CHECKSUM(v)` (R108). -/
def acceptChecksum (v : Byte) (s : State) : Outcome :=
  if s.rxSum + v = 0xFF then validate s
  else .next (goto .seek (raiseChecksumError v s))

/-- The value byte goes to the accept rule of the body state; no escape is pending any more (R103). -/
def acceptValue (x : BodyState) (v : Byte) (s : State) : Outcome :=
  let s' := { s with rxEpend := false }
  match x with
  | .lenHi => .next (acceptLenHi v s')
  | .lenLo => .next (acceptLenLo v s')
  | .payload => .next (acceptPayload v s')
  | .checksum => acceptChecksum v s'

/-- What a received byte does, by `RX_STATE` (R64, R100 to R103): discarded in `IDLE` and `STOPPED`, held in `DISPATCH`,
else `inSeek` or `inBody`. -/
def receive (inSeek : State → Outcome) (inBody : BodyState → State → Outcome) (s : State) : Outcome :=
  match s.rxState with
  | .idle => .next s
  | .stopped => .next s
  | .seek => inSeek s
  | .dispatch => .fault .transportHeld
  | .lenHi => inBody .lenHi s
  | .lenLo => inBody .lenLo s
  | .payload => inBody .payload s
  | .checksum => inBody .checksum s

/-- A byte other than the delimiter in `SEEK` (R101). -/
def skipByte (b : Byte) (s : State) : Outcome :=
  .next (raiseInvalidDelimiter b s)

/-- A body byte that is a value byte (R103). -/
def bodyValue (b : Byte) (x : BodyState) (s : State) : Outcome :=
  acceptValue x (valueByte b s) s

/-- A raw `0x7E` in a body state: a resync in escaped mode with `RSYNC` latched (R104), else a value byte (R103). -/
def bodyDelim (x : BodyState) (s : State) : Outcome :=
  if s.rxLesc = true ∧ s.rxLrsync = true then .next (resync x s) else bodyValue Config.delim x s

/-- A `0x7D` in a body state: the first half of an escape pair in escaped mode, else a value byte (R103). -/
def bodyEscb (x : BodyState) (s : State) : Outcome :=
  if s.rxLesc = true ∧ s.rxEpend = false then .next { s with rxEpend := true } else bodyValue Config.esc x s

/-- Row `DELIM` (R64). -/
def execDelim (s : State) : Outcome :=
  receive (fun s => .next (openFrame s)) bodyDelim s

/-- Row `ESCB` (R64). -/
def execEscb (s : State) : Outcome :=
  receive (skipByte Config.esc) bodyEscb s

/-- Row `XON` (R64, D10). -/
def execXon (s : State) : Outcome :=
  receive (skipByte Config.xon) (bodyValue Config.xon) s

/-- Row `XOFF` (R64, D10). -/
def execXoff (s : State) : Outcome :=
  receive (skipByte Config.xoff) (bodyValue Config.xoff) s

/-- Row `OTHER` (R64). -/
def execOther (b : Byte) (s : State) : Outcome :=
  receive (skipByte b) (bodyValue b) s

/-- `RX_BYTE BYTE` (R100 to R108): the class of the byte decides which rule applies (R64). -/
def execRxByte (b : Byte) (s : State) : Outcome :=
  if b = Config.delim then execDelim s
  else if b = Config.esc then execEscb s
  else if b = Config.xon then execXon s
  else if b = Config.xoff then execXoff s
  else execOther b s

/-- The transport closed: `ConnectionLost`, and the reader stops (R109). -/
def stopReceive (s : State) : State :=
  goto .stopped (raiseConnectionLost s)

/-- The transport closed inside a frame: `IncompleteFrame` first (R109). -/
def closeFrame (x : BodyState) (s : State) : State :=
  stopReceive { raiseIncompleteFrame x .close s with rxEpend := false }

/-- `RX_CLOSE` (R109). -/
def execRxClose (s : State) : Outcome :=
  match s.rxState with
  | .stopped => .next s
  | .dispatch => .fault .transportHeld
  | .idle => .next (stopReceive s)
  | .seek => .next (stopReceive s)
  | .lenHi => .next (closeFrame .lenHi s)
  | .lenLo => .next (closeFrame .lenLo s)
  | .payload => .next (closeFrame .payload s)
  | .checksum => .next (closeFrame .checksum s)

end Sys2Proof.Machine
end

