-- ==== Sys2Proof/Machine/TxFramer.lean ====
section
/-! DEFINITION. The TX framer (spec/41_tx_framer.md R95, R96). -/

namespace Sys2Proof.Machine

/-- An accepted `TX_START` (R95): latch the mode, emit the delimiter and the escaped length; of an empty frame, emit
the checksum `0xFF` too and stay in `T_IDLE`. -/
def openTxFrame (len : Half) (s : State) : State :=
  let e := s.ctrlEsc
  let header := [Config.delim] ++ escByte (hiByte len) e ++ escByte (loByte len) e
  let body := if len = 0 then escByte 0xFF e else []
  emitTxo (header ++ body)
    { s with
      txLesc := e
      txSum := 0
      txRem := len
      txState := if len = 0 then .tIdle else .tPayload }

/-- An accepted `TX_DATA` (R96): emit the escaped byte and account for it; after the last byte, emit the escaped
checksum and go to `T_IDLE`. -/
def sendTxByte (b : Byte) (s : State) : State :=
  let e := s.txLesc
  let sum := s.txSum + b
  let r := s.txRem - 1
  let tail := if r = 0 then escByte (0xFF - sum) e else []
  emitTxo (escByte b e ++ tail)
    { s with
      txSum := sum
      txRem := r
      txState := if r = 0 then .tIdle else s.txState }

/-- `TX_START LEN` (R95): refused with `TXERR` while a frame is open. -/
def execTxStart (len : Half) (s : State) : Outcome :=
  match s.txState with
  | .tPayload => .next (setTxerr s)
  | .tIdle => .next (openTxFrame len s)

/-- `TX_DATA BYTE` (R96): refused with `TXERR` when no frame is open. -/
def execTxData (b : Byte) (s : State) : Outcome :=
  match s.txState with
  | .tIdle => .next (setTxerr s)
  | .tPayload => .next (sendTxByte b s)

end Sys2Proof.Machine
end

