-- ==== Sys2Proof/Machine/Dispatch.lean ====
section
/-! DEFINITION. One arm per constructor of `Instr`, each a direct call of the instruction's meaning. -/

namespace Sys2Proof.Machine

def exec (i : Instr) (s : State) : Host.Outcome State Fault Refusal :=
  match i with
  | .nop => Sys2Proof.Machine.execNop s
  | .rxByte b => Sys2Proof.Machine.execRxByte b s
  | .rxClose => Sys2Proof.Machine.execRxClose s
  | .dispatchAck c => Sys2Proof.Machine.execDispatchAck c s
  | .txStart l => Sys2Proof.Machine.execTxStart l s
  | .txData b => Sys2Proof.Machine.execTxData b s
  | .csrWriteCtrl d => Sys2Proof.Machine.execCsrWriteCtrl d s
  | .csrWriteStatus d => Sys2Proof.Machine.execCsrWriteStatus d s
  | .csrWrite a d => Sys2Proof.Machine.execCsrWrite a d s
  | .csrRead a => Sys2Proof.Machine.execCsrRead a s
  | .start => Sys2Proof.Machine.execStart s
  | .softReset => Sys2Proof.Machine.execSoftReset s
  | .reservedAB x => Sys2Proof.Machine.execReservedAB x s
  | .reservedCF x => Sys2Proof.Machine.execReservedCF x s
  | .delim => Sys2Proof.Machine.execDelim s
  | .escb => Sys2Proof.Machine.execEscb s
  | .xon => Sys2Proof.Machine.execXon s
  | .xoff => Sys2Proof.Machine.execXoff s
  | .other b => Sys2Proof.Machine.execOther b s
  | .ftTx64 => Sys2Proof.Machine.execFtTx64 s
  | .ftTx16 => Sys2Proof.Machine.execFtTx16 s
  | .ftAtCommand => Sys2Proof.Machine.execFtAtCommand s
  | .ftAtCommandQueue => Sys2Proof.Machine.execFtAtCommandQueue s
  | .ftTransmitRequest => Sys2Proof.Machine.execFtTransmitRequest s
  | .ftExplicitAddressingCommand => Sys2Proof.Machine.execFtExplicitAddressingCommand s
  | .ftRemoteAtCommandRequest => Sys2Proof.Machine.execFtRemoteAtCommandRequest s
  | .ftUserDataRelay => Sys2Proof.Machine.execFtUserDataRelay s
  | .ftRx64 => Sys2Proof.Machine.execFtRx64 s
  | .ftRx16 => Sys2Proof.Machine.execFtRx16 s
  | .ftRxIo64 => Sys2Proof.Machine.execFtRxIo64 s
  | .ftRxIo16 => Sys2Proof.Machine.execFtRxIo16 s
  | .ftAtCommandResponse => Sys2Proof.Machine.execFtAtCommandResponse s
  | .ftTxStatus => Sys2Proof.Machine.execFtTxStatus s
  | .ftModemStatus => Sys2Proof.Machine.execFtModemStatus s
  | .ftTransmitStatus => Sys2Proof.Machine.execFtTransmitStatus s
  | .ftReceivePacket => Sys2Proof.Machine.execFtReceivePacket s
  | .ftExplicitRxIndicator => Sys2Proof.Machine.execFtExplicitRxIndicator s
  | .ftIoDataSampleRxIndicator => Sys2Proof.Machine.execFtIoDataSampleRxIndicator s
  | .ftRemoteAtCommandResponse => Sys2Proof.Machine.execFtRemoteAtCommandResponse s
  | .ftUserDataRelayOutput => Sys2Proof.Machine.execFtUserDataRelayOutput s
  | .ftGeneric => Sys2Proof.Machine.execFtGeneric s
  | .ftUnknown b => Sys2Proof.Machine.execFtUnknown b s

end Sys2Proof.Machine
end

