-- ==== Sys2Proof/Machine/Step.lean ====
section
/-! DEFINITION. One step of the block: one port event is consumed and its one rule applied (spec/20_memory.md R50, R51;
D1). -/

namespace Sys2Proof.Machine

/-- The step (R51, R52): select an enabled port, consume its head, run the instruction it decodes to; a reserved word
has the effect of R133. With no enabled head the run has ended, or is stuck on the held TRANSPORT port (R182). -/
def step (s : State) : Host.Outcome State Fault Refusal :=
  match selectPort s with
  | none => .fault (stalled s)
  | some p =>
    match portQueue p s with
    | [] => .fault (stalled s)
    | w :: _ =>
      match decodeEvent p w with
      | .ok i => exec i (consume p s)
      | .error _ => reservedWord (consume p s)

/-- The state whose next step fetches and runs the instruction of an opcode-table word (log 8). A port word stands at
the head of its port, a wire byte as an `RX_BYTE` at the head of TRANSPORT, a frame type as the first byte of a received
frame whose checksum byte is at the head of TRANSPORT. The other port is emptied, since with both ports waiting the
choice between them is free (R51). A TRANSPORT word in a state that is in `DISPATCH` stays held (R102). -/
def State.withFetchWord (s : State) (nbits w : Nat) : State :=
  placeCode (tableCode nbits w) s

end Sys2Proof.Machine
end

