-- ==== Sys2Proof/Machine/Assembly.lean ====
section
/-! DEFINITION. The textual event syntax (spec/30_encoding.md R74) and the pseudo-events (R75). The block sees only the
words these expand to. -/

namespace Sys2Proof.Machine

/-- `FEED [b0, ..., bn-1]` (R75). -/
def feed (bs : List Byte) : List Instr := bs.map Instr.rxByte

/-- `SEND [d0, ..., dL-1]` (R75), of at most 65535 bytes. -/
def sendFrame (d : List Byte) : List Instr :=
  .txStart (BitVec.ofNat 16 d.length) :: d.map Instr.txData

/-- `MODE e` (R75). -/
def modeEvents (e : Half) : List Instr := [.csrWriteCtrl e]

/-- `CLEAR_STICKY` (R75). -/
def clearStickyEvents : List Instr := [.csrWriteStatus 0x00E0]

/-- The `CSR_WRITE` row an address belongs to (R128 to R130). -/
def csrWriteInstr (addr : Byte) (data : Half) : Instr :=
  if addr = 0x00 then .csrWriteCtrl data
  else if addr = 0x01 then .csrWriteStatus data
  else .csrWrite addr data

/-- A digit of base 16, of either case. -/
def digitValue (c : Char) : Option Nat :=
  if '0' ≤ c ∧ c ≤ '9' then some (c.toNat - 48)
  else if 'a' ≤ c ∧ c ≤ 'f' then some (c.toNat - 87)
  else if 'A' ≤ c ∧ c ≤ 'F' then some (c.toNat - 55)
  else none

/-- The number a list of digits writes in a base, most significant first. -/
def digitsValue (base : Nat) : Nat → List Char → Option Nat
  | n, [] => some n
  | n, c :: t =>
    match digitValue c with
    | none => none
    | some v => if v < base then digitsValue base (base * n + v) t else none

/-- "Numbers are decimal or `0x`-hexadecimal" (R74). -/
def numberValue : List Char → Option Nat
  | [] => none
  | ['0', 'x'] => none
  | '0' :: 'x' :: t => digitsValue 16 0 t
  | c :: t => digitsValue 10 0 (c :: t)

/-- Spaces, commas and list brackets separate tokens. -/
def isSeparator (c : Char) : Bool := c ∈ [' ', '\t', ',', '[', ']']

/-- The tokens of a line. -/
def tokens (cs : List Char) : List (List Char) :=
  (cs.foldr (fun c acc =>
    if isSeparator c then [] :: acc
    else match acc with
      | [] => [[c]]
      | t :: ts => (c :: t) :: ts) [[]]).filter (fun t => !t.isEmpty)

/-- An operand that fits a byte. -/
def asByte (n : Nat) : Option Byte := if n < 256 then some (BitVec.ofNat 8 n) else none

/-- An operand that fits 16 bits. -/
def asHalf (n : Nat) : Option Half := if n < 65536 then some (BitVec.ofNat 16 n) else none

/-- The events of a mnemonic and its operands on a port (R74, R75): `FEED` is written for T; `SEND`, `MODE` and
`CLEAR_STICKY` for H. -/
def asmEvents (p : Port) (mnemonic : String) (ops : List Nat) : Option (List Instr) :=
  match p, mnemonic, ops with
  | _, "NOP", [] => some [.nop]
  | _, "RX_BYTE", [b] => (asByte b).map fun b => [.rxByte b]
  | _, "RX_CLOSE", [] => some [.rxClose]
  | _, "DISPATCH_ACK", [c] => if c = 0 then some [.dispatchAck false] else if c = 1 then some [.dispatchAck true] else none
  | _, "TX_START", [l] => (asHalf l).map fun l => [.txStart l]
  | _, "TX_DATA", [b] => (asByte b).map fun b => [.txData b]
  | _, "CSR_WRITE", [a, v] =>
    match asByte a, asHalf v with
    | some a, some v => some [csrWriteInstr a v]
    | _, _ => none
  | _, "CSR_READ", [a] => (asByte a).map fun a => [.csrRead a]
  | _, "START", [] => some [.start]
  | _, "SOFT_RESET", [] => some [.softReset]
  | .transport, "FEED", bs => (bs.mapM asByte).map feed
  | .host, "SEND", ds => if ds.length < 65536 then (ds.mapM asByte).map sendFrame else none
  | .host, "MODE", [e] => (asHalf e).map modeEvents
  | .host, "CLEAR_STICKY", [] => some clearStickyEvents
  | _, _, _ => none

/-- The word of a port event, whichever port it is put on. -/
def eventWord (i : Instr) : Option Word :=
  match encode i with
  | .event _ w => some w
  | .wire _ => none
  | .frameType _ => none

/-- The words of a mnemonic and its operands on a port. -/
def asmWords (p : Port) (mnemonic : String) (ops : List Nat) : Option (List (Port × Word)) :=
  match asmEvents p mnemonic ops with
  | none => none
  | some is => (is.mapM eventWord).map fun ws => ws.map fun w => (p, w)

/-- One line `<port>: <MNEMONIC> <operands>`; `;` starts a comment, and an empty line has no events (R74). -/
def assembleLine (line : String) : Option (List (Port × Word)) :=
  match tokens (line.toList.takeWhile (· != ';')) with
  | [] => some []
  | ['T', ':'] :: m :: ops =>
    match ops.mapM numberValue with
    | some ns => asmWords .transport (String.ofList m) ns
    | none => none
  | ['H', ':'] :: m :: ops =>
    match ops.mapM numberValue with
    | some ns => asmWords .host (String.ofList m) ns
    | none => none
  | _ => none

end Sys2Proof.Machine
end

