-- ==== Sys2Proof/Safety.lean ====
section
/-! DEFINITION. What the statements speak of: runs of instructions, the observation of a run (spec/70_reset_and_hazards.md
R182), the invariant of the block's state, the pairing of `Offer` and `Deliver` (spec/20_memory.md R53), the transmit
registers, and the equality of states up to a part of them. -/

namespace Sys2Proof.Machine

/-- The bytes of the written cells, in address order. -/
def pbufBytes (s : State) : List Byte := s.pbuf.map Prod.snd

/-- `PBUF` holds exactly the bytes received so far, at `0 .. RX_CNT-1` (R28, R34, R47), and `RX_SUM` is their sum (R29). -/
abbrev BufferInv (s : State) : Prop :=
  s.pbuf = Memory.ofBytes 0 (pbufBytes s) ∧ (pbufBytes s).length = s.rxCnt.toNat ∧ s.rxSum = sum8 (pbufBytes s)

/-- `0 ≤ RX_CNT ≤ RX_LEN` (R28), and what each state knows more: nothing received while the length is read, less than
all in `PAYLOAD` (R107), all in `CHECKSUM` and `DISPATCH`. -/
abbrev ProgressInv (s : State) : Prop :=
  s.rxCnt ≤ s.rxLen ∧
  (s.rxState = .lenHi → s.rxLen = 0) ∧
  (s.rxState = .lenLo → s.rxCnt = 0 ∧ loByte s.rxLen = 0) ∧
  (s.rxState = .payload → s.rxCnt < s.rxLen) ∧
  (s.rxState = .checksum → s.rxCnt = s.rxLen) ∧
  (s.rxState = .dispatch → s.rxCnt = s.rxLen)

/-- The body states (spec/00_scope.md R10). -/
def isBody : RxState → Bool
  | .lenHi | .lenLo | .payload | .checksum => true
  | .idle | .seek | .dispatch | .stopped => false

/-- `RX_EPEND` "can be 1 only in the body states", and in escaped mode (R26, R103). -/
abbrev EscapeInv (s : State) : Prop :=
  s.rxEpend = true → isBody s.rxState = true ∧ s.rxLesc = true

/-- `TX_REM ≥ 1` exactly while a transmit frame is open (R30, R96). -/
abbrev TransmitInv (s : State) : Prop :=
  s.txState = .tPayload ↔ s.txRem ≠ 0

/-- In `DISPATCH` the last `DISP` entry is the `Offer` of the frame that `DREC` and `PBUF` hold (R35, R117, R120). -/
abbrev OfferInv (s : State) : Prop :=
  s.rxState = .dispatch →
    s.drec.len = s.rxLen ∧ (pbufBytes s).head? = some s.drec.ft ∧
      s.disp.getLast? = some (.offer (deliverRec s.drec (pbufBytes s)))

/-- The parameters are a finite map and its bounds (R6). -/
abbrev ParamsInv (s : State) : Prop := s.params.wf = true

/-- The invariant of the block. -/
structure BlockInv (s : State) : Prop where
  buffer : BufferInv s
  progress : ProgressInv s
  escape : EscapeInv s
  transmit : TransmitInv s
  offer : OfferInv s
  params : ParamsInv s

/-- Instructions run one after the other, each on the state the last one left. -/
def runInstrs : List Instr → State → Outcome
  | [], s => .next s
  | i :: is, s =>
    match exec i s with
    | .next t => runInstrs is t
    | .fault f => .fault f
    | .refused r => .refused r

/-- The observation of a run (R182): the four streams, the CSR values, `RX_STATE`. -/
structure Observation where
  txo : List Byte
  evt : List EvtRecord
  disp : List DispRecord
  csro : List Half
  csrs : List (Byte × Half)
  rxState : RxState
deriving DecidableEq, Repr

/-- What is observed of a state at the end of a run (R182). -/
def observe (s : State) : Observation :=
  ⟨s.txo, s.evt, s.disp, s.csro, csrMap s, s.rxState⟩

/-- A run ends when both ports are empty, or when the only waiting event is the held TRANSPORT head (R182). -/
def runEnded (s : State) : Bool :=
  s.host.isEmpty && (s.transport.isEmpty || decide (s.rxState = .dispatch))

/-- The transmit registers (R30 to R33). -/
structure TxRegs where
  txState : TxState
  txLesc : Bool
  txRem : Half
  txSum : Byte
deriving DecidableEq, Repr

def txRegs (s : State) : TxRegs := ⟨s.txState, s.txLesc, s.txRem, s.txSum⟩

/-- A state with other transmit registers. -/
def withTxRegs (r : TxRegs) (s : State) : State :=
  { s with txState := r.txState, txLesc := r.txLesc, txRem := r.txRem, txSum := r.txSum }

/-- A state with other sticky flags (R39). -/
def withSticky (txerr badcmd connlost : Bool) (s : State) : State :=
  { s with txerr := txerr, badcmd := badcmd, connlost := connlost }

/-- A state with another `CTRL` (R22). -/
def withCtrl (esc rsync : Bool) (s : State) : State :=
  { s with ctrlEsc := esc, ctrlRsync := rsync }

/-- An outcome with its next state changed. -/
def mapNext (f : State → State) : Outcome → Outcome
  | .next t => .next (f t)
  | .fault r => .fault r
  | .refused r => .refused r

/-- The instructions of the receive side and the dispatcher: the TRANSPORT events but `NOP`, the wire byte classes,
`DISPATCH_ACK` and the frame-type rows. -/
def isReceiveSide : Instr → Bool
  | .rxByte _ | .rxClose | .dispatchAck _ | .delim | .escb | .xon | .xoff | .other _
  | .ftTx64 | .ftTx16 | .ftAtCommand | .ftAtCommandQueue | .ftTransmitRequest | .ftExplicitAddressingCommand
  | .ftRemoteAtCommandRequest | .ftUserDataRelay | .ftRx64 | .ftRx16 | .ftRxIo64 | .ftRxIo16 | .ftAtCommandResponse
  | .ftTxStatus | .ftModemStatus | .ftTransmitStatus | .ftReceivePacket | .ftExplicitRxIndicator
  | .ftIoDataSampleRxIndicator | .ftRemoteAtCommandResponse | .ftUserDataRelayOutput | .ftGeneric | .ftUnknown _ => true
  | .nop | .txStart _ | .txData _ | .csrWriteCtrl _ | .csrWriteStatus _ | .csrWrite _ _ | .csrRead _ | .start
  | .softReset | .reservedAB _ | .reservedCF _ => false

/-- The byte an instruction delivers to the receive side: the operand of `RX_BYTE`, or the byte of a wire-byte row
(spec/30_encoding.md R64). -/
def wireByteOf : Instr → Option Byte
  | .rxByte b => some b
  | .delim => some 0x7E
  | .escb => some 0x7D
  | .xon => some 0x11
  | .xoff => some 0x13
  | .other b => some b
  | .nop | .rxClose | .dispatchAck _ | .txStart _ | .txData _ | .csrWriteCtrl _ | .csrWriteStatus _ | .csrWrite _ _
  | .csrRead _ | .start | .softReset | .reservedAB _ | .reservedCF _
  | .ftTx64 | .ftTx16 | .ftAtCommand | .ftAtCommandQueue | .ftTransmitRequest | .ftExplicitAddressingCommand
  | .ftRemoteAtCommandRequest | .ftUserDataRelay | .ftRx64 | .ftRx16 | .ftRxIo64 | .ftRxIo16 | .ftAtCommandResponse
  | .ftTxStatus | .ftModemStatus | .ftTransmitStatus | .ftReceivePacket | .ftExplicitRxIndicator
  | .ftIoDataSampleRxIndicator | .ftRemoteAtCommandResponse | .ftUserDataRelayOutput | .ftGeneric | .ftUnknown _ => none

/-- The byte of a frame-type row (spec/43_dispatcher.md R113, R115). -/
def frameTypeOf : Instr → Option Byte
  | .ftTx64 => some 0x00
  | .ftTx16 => some 0x01
  | .ftAtCommand => some 0x08
  | .ftAtCommandQueue => some 0x09
  | .ftTransmitRequest => some 0x10
  | .ftExplicitAddressingCommand => some 0x11
  | .ftRemoteAtCommandRequest => some 0x17
  | .ftUserDataRelay => some 0x2D
  | .ftRx64 => some 0x80
  | .ftRx16 => some 0x81
  | .ftRxIo64 => some 0x82
  | .ftRxIo16 => some 0x83
  | .ftAtCommandResponse => some 0x88
  | .ftTxStatus => some 0x89
  | .ftModemStatus => some 0x8A
  | .ftTransmitStatus => some 0x8B
  | .ftReceivePacket => some 0x90
  | .ftExplicitRxIndicator => some 0x91
  | .ftIoDataSampleRxIndicator => some 0x92
  | .ftRemoteAtCommandResponse => some 0x97
  | .ftUserDataRelayOutput => some 0xAD
  | .ftGeneric => some 0xFF
  | .ftUnknown ft => some ft
  | .nop | .rxByte _ | .rxClose | .dispatchAck _ | .txStart _ | .txData _ | .csrWriteCtrl _ | .csrWriteStatus _
  | .csrWrite _ _ | .csrRead _ | .start | .softReset | .reservedAB _ | .reservedCF _ | .delim | .escb | .xon | .xoff
  | .other _ => none

/-- A body byte that stands for a value: neither a resync nor the first half of an escape pair (R103). -/
abbrev takesValue (b : Byte) (s : State) : Prop :=
  ¬(s.rxLesc = true ∧ s.rxLrsync = true ∧ b = 0x7E) ∧ ¬(s.rxLesc = true ∧ s.rxEpend = false ∧ b = 0x7D)

/-- A row of R69 and R70: match, mask, and the port, `none` for both. -/
structure SpecRow where
  pattern : Word
  mask : Word
  port : Option Port
deriving DecidableEq, Repr

/-- The ten rows of R70 with their ports of R69. -/
def specRows : List SpecRow :=
  [ ⟨0x00000000, 0xFFFFFFFF, none⟩, ⟨0x10000000, 0xFFFFFF00, some .transport⟩,
    ⟨0x20000000, 0xFFFFFFFF, some .transport⟩, ⟨0x30000000, 0xFFFFFFFE, some .host⟩,
    ⟨0x40000000, 0xFFFF0000, some .host⟩, ⟨0x50000000, 0xFFFFFF00, some .host⟩, ⟨0x60000000, 0xFF000000, some .host⟩,
    ⟨0x70000000, 0xFF00FFFF, some .host⟩, ⟨0x80000000, 0xFFFFFFFF, some .host⟩, ⟨0x90000000, 0xFFFFFFFF, some .host⟩ ]

/-- A reserved word, the first two cases of R72: it matches no row, or a row of the other port. -/
abbrev isReservedWord (p : Port) (w : Word) : Prop :=
  ∀ r ∈ specRows, w &&& r.mask = r.pattern → r.port ≠ none ∧ r.port ≠ some p

/-- The transport delivers bytes, and the host acknowledges every `Offer` before the next byte, with a claim that may
depend on everything dispatched so far (R110). -/
def receiveAcked (claim : List DispRecord → Bool) : List Byte → State → Outcome
  | [], s => .next s
  | b :: bs, s =>
    match exec (.rxByte b) s with
    | .fault f => .fault f
    | .refused r => .refused r
    | .next t =>
      if t.rxState = .dispatch then
        match exec (.dispatchAck (claim t.disp)) t with
        | .next u => receiveAcked claim bs u
        | .fault f => .fault f
        | .refused r => .refused r
      else receiveAcked claim bs t

/-- What a run reports: the events, and the records offered. -/
structure Reports where
  evts : List EvtRecord
  offers : List OfferRec
deriving DecidableEq, Repr

/-- One event before the rest. -/
def Reports.evt (e : EvtRecord) (r : Reports) : Reports := ⟨e :: r.evts, r.offers⟩

/-- One offer before the rest. -/
def Reports.offer (o : OfferRec) (r : Reports) : Reports := ⟨r.evts, o :: r.offers⟩

/-- `VALIDATE` on frame data, as `SCAN` reports it (R110, R117). -/
def reportFrame (p : Params) (d : List Byte) (r : Reports) : Reports :=
  match d with
  | [] => r.evt (.malformedPacket false 0 0)
  | ft :: t =>
    if malformed p (ft :: t) then r.evt (.malformedPacket true ft (BitVec.ofNat 16 (ft :: t).length))
    else r.offer (offerOf (classifyAs p ft (ft :: t)) ft (BitVec.ofNat 16 (ft :: t).length) (ft :: t))

/-- The loop `SCAN` of R110, driving `DEFRAME`. Its first argument bounds the number of rounds. `DEFRAME` gives a
`ChecksumError` no fields, so the event stands here with zeros. -/
def scan (p : Params) (e : Bool) : Nat → List Byte → Reports
  | 0, _ => ⟨[], []⟩
  | _ + 1, [] => ⟨[], []⟩
  | n + 1, b :: t =>
    if b ≠ 0x7E then (scan p e n t).evt (.invalidDelimiter b)
    else
      match deframe (b :: t) e with
      | .ok d r => reportFrame p d (scan p e n r)
      | .checksumError r => (scan p e n r).evt (.checksumError 0 0 0)
      | .incompleteFrame => ⟨[], []⟩
      | .invalidDelimiter => ⟨[], []⟩

/-- An event without the fields of a `ChecksumError`. -/
def plainEvt : EvtRecord → EvtRecord
  | .checksumError _ _ _ => .checksumError 0 0 0
  | .invalidDelimiter b => .invalidDelimiter b
  | .incompleteFrame x p c => .incompleteFrame x p c
  | .malformedPacket p ft l => .malformedPacket p ft l
  | .connectionLost => .connectionLost

/-- The records offered on `DISP`. -/
def offersOf (l : List DispRecord) : List OfferRec :=
  l.filterMap fun
    | .offer r => some r
    | .deliver _ _ _ => none

/-- `DISP` is `Offer`s each followed by its `Deliver`, the last perhaps still to come (R53). -/
def pairedUp : List DispRecord → Bool
  | [] => true
  | [.offer _] => true
  | .offer r :: .deliver r' _ _ :: t => decide (r = r') && pairedUp t
  | _ => false

/-- The last entry is an `Offer` that has no `Deliver` yet. -/
def offerOpen (l : List DispRecord) : Bool :=
  match l.getLast? with
  | some (.offer _) => true
  | some (.deliver _ _ _) => false
  | none => false

end Sys2Proof.Machine
end

