-- ==== Sys2Proof/Certificates/Slice0/Obligations.lean ====
section
/-! DEFINITION. The statements for the provers. Each docstring names the rules it formalises. -/

open Sys2Proof Sys2Proof.Machine

/-! ### Encoding -/

/-- R70, R71, R64, R113: no bit of an encoding is dropped, for every instruction and every operand. -/
def Obligations.EncodeThenDecodeReturnsTheInstruction : Prop :=
  ∀ i : Instr, i.wf = true → decode (encode i) = .ok i

/-- R70, R71: what the decoder answers is well formed and encodes to the word it was read from. `NOP` and the reserved
codes are read on both ports; the encoder gives them on HOST. -/
def Obligations.DecodedCodesEncodeBack : Prop :=
  ∀ (c : Code) (i : Instr), decode c = .ok i →
    i.wf = true ∧ (encode i = c ∨ ∃ w, c = .event .transport w ∧ encode i = .event .host w)

/-- R70: the ten rows are pairwise disjoint, so at most one row matches any word. In the decoder's own list two rows hit
one word only where a `CSR_WRITE` row of address 0 or 1 stands before the general `CSR_WRITE` row, and there they do. -/
def Obligations.EventRowsAreDisjoint : Prop :=
  (specRows.Pairwise fun a b => ∀ w : Word, ¬(w &&& a.mask = a.pattern ∧ w &&& b.mask = b.pattern)) ∧
  (eventRows.Pairwise fun a b =>
    (∃ w : Word, a.hits w = true ∧ b.hits w = true) ↔
      (a.pattern = 0x60000000 ∨ a.pattern = 0x60010000) ∧ a.mask = 0xFFFF0000 ∧
        b.pattern = 0x60000000 ∧ b.mask = 0xFF000000)

/-- R72: the decoder rejects a word, or reads a reserved operation code, exactly when no row of R70 for its port
matches it. -/
def Obligations.DecodeRejectsExactlyTheReservedWords : Prop :=
  ∀ (p : Port) (w : Word),
    isReservedWord p w ↔
      (∃ e, decodeEvent p w = .error e) ∨ (∃ x, decodeEvent p w = .ok (.reservedAB x)) ∨
        (∃ x, decodeEvent p w = .ok (.reservedCF x))

/-- R70, R64, R113: words written out from the encoding tables. -/
def Obligations.SampleCodesDecode : Prop :=
  decodeEvent .host 0x5000008A = .ok (.txData 0x8A) ∧ decodeEvent .host 0x40007D11 = .ok (.txStart 0x7D11) ∧
  decodeEvent .transport 0x1000007E = .ok (.rxByte 0x7E) ∧ decodeEvent .host 0x30000001 = .ok (.dispatchAck true) ∧
  decodeEvent .host 0x600100E0 = .ok (.csrWriteStatus 0x00E0) ∧ decodeEvent .host 0x70100000 = .ok (.csrRead 0x10) ∧
  decodeEvent .transport 0x10000100 = .error .noRow ∧ decodeEvent .host 0x10000041 = .error .wrongPort ∧
  decode (.wire 0x7D) = .ok .escb ∧ decode (.frameType 0x8A) = .ok .ftModemStatus

/-- R133: a reserved word consumed on either port sets `BADCMD` and changes nothing else; on the TRANSPORT port in
`DISPATCH` it is held before it is examined; and so do the reserved operation codes. -/
def Obligations.ReservedWordsOnlySetBadcmd : Prop :=
  (∀ (s : State) (p : Port) (w : Word) (rest : List Word),
    selectPort s = some p → portQueue p s = w :: rest → isReservedWord p w →
      step s = .next { consume p s with badcmd := true }) ∧
  (∀ s : State, s.rxState = .dispatch → selectPort s ≠ some .transport) ∧
  (∀ (x : BitVec 29) (s : State), exec (.reservedAB x) s = .next { s with badcmd := true }) ∧
  (∀ (x : BitVec 30) (s : State), exec (.reservedCF x) s = .next { s with badcmd := true })

/-! ### Byte codec -/

/-- R84: the four escape laws. -/
def Obligations.EscapeLaws : Prop :=
  (∀ (s : List Byte) (e : Bool), unescape (escape s e) e = some s) ∧
  (∀ (s : List Byte), (∀ b ∈ escape s true, b ≠ 0x7E ∧ b ≠ 0x11 ∧ b ≠ 0x13) ∧
    ∀ i : Nat, (escape s true)[i]? = some 0x7D →
      ∃ x ∈ [(0x5E : Byte), 0x5D, 0x31, 0x33], (escape s true)[i + 1]? = some x) ∧
  (∀ (d : List Byte), d.length ≤ 65535 → ∀ i : Nat, (frame d true)[i]? = some 0x7E ↔ i = 0) ∧
  (∀ (s t : List Byte) (e : Bool), escape s e = escape t e → s = t)

/-- R87: the checksum laws: what verifies, incremental sums, what is detected and what is not. -/
def Obligations.ChecksumLaws : Prop :=
  (∀ (d : List Byte) (c : Byte), verify d c = true ↔ c = cksum d) ∧
  (∀ a b : List Byte, sum8 (a ++ b) = sum8 a + sum8 b) ∧
  (∀ (a b : List Byte) (x y c : Byte), x ≠ y → verify (a ++ x :: b) c = true → verify (a ++ y :: b) c = false) ∧
  (∀ (d : List Byte) (c c' : Byte), c ≠ c' → verify d c = true → verify d c' = false) ∧
  (∀ (a b t : List Byte) (x y k c : Byte), verify (a ++ x :: b ++ y :: t) c = verify (a ++ (x + k) :: b ++ (y - k) :: t) c) ∧
  (∀ (a b : List Byte) (x k c : Byte), verify (a ++ x :: b) c = verify (a ++ (x + k) :: b) (c - k)) ∧
  (∀ (d d' : List Byte) (c : Byte), d.Perm d' → verify d c = verify d' c)

/-- R60: the non-escaped frame is exactly delimiter, length, frame data, checksum, `L + 4` bytes. -/
def Obligations.PlainFrameFormat : Prop :=
  ∀ d : List Byte, d.length ≤ 65535 →
    (frame d false).length = d.length + 4 ∧ (frame d false)[0]? = some 0x7E ∧
    (frame d false)[1]? = some (BitVec.ofNat 8 (d.length / 256)) ∧
    (frame d false)[2]? = some (BitVec.ofNat 8 d.length) ∧
    (∀ i < d.length, (frame d false)[3 + i]? = d[i]?) ∧
    (frame d false)[3 + d.length]? = some (cksum d)

/-- R65: the length of a frame on the wire in escaped mode. -/
def Obligations.EscapedFrameLength : Prop :=
  ∀ d : List Byte, d.length ≤ 65535 →
    d.length + 4 ≤ (frame d true).length ∧ (frame d true).length ≤ 2 * d.length + 7

/-- R90: decoding a frame gives its data back and leaves what follows it. -/
def Obligations.DeframeUndoesFrame : Prop :=
  ∀ (d r : List Byte) (e : Bool), d.length ≤ 65535 → deframe (frame d e ++ r) e = .ok d r

/-- R88: `BE16` and `UNBE16`. -/
def Obligations.BigEndianLength : Prop :=
  (∀ v : Half, be16 v = [v.extractLsb' 8 8, v.extractLsb' 0 8] ∧ unbe16 (be16 v) = some v) ∧
  (∀ h l : Byte, unbe16 [h, l] = some (BitVec.ofNat 16 (256 * h.toNat + l.toNat))) ∧
  (∀ l : Byte, unbe16 [l] = some (BitVec.ofNat 16 l.toNat)) ∧ unbe16 [] = some 0

/-! ### Transmit framer -/

/-- R95: `TX_START` is refused with `TXERR` while a frame is open, else it emits the header (and the whole frame when
the length is 0) and opens the frame. -/
def Obligations.TxStartOpensAFrame : Prop :=
  ∀ (len : Half) (s : State),
    decode (.event .host (0x4000#16 ++ len)) = .ok (.txStart len) ∧
    (s.txState = .tPayload → exec (.txStart len) s = .next { s with txerr := true }) ∧
    (s.txState = .tIdle →
      exec (.txStart len) s = .next
        { s with
          txLesc := s.ctrlEsc
          txSum := 0
          txRem := len
          txState := if len = 0 then .tIdle else .tPayload
          txo := s.txo ++ (0x7E : Byte) :: escape (be16 len ++ if len = 0 then [0xFF] else []) s.ctrlEsc })

/-- R96: `TX_DATA` is refused with `TXERR` when no frame is open, else it emits the escaped byte, and after the last
byte the escaped checksum. -/
def Obligations.TxDataSendsAByte : Prop :=
  ∀ (b : Byte) (s : State),
    decode (.event .host (0x500000#24 ++ b)) = .ok (.txData b) ∧
    (s.txState = .tIdle → exec (.txData b) s = .next { s with txerr := true }) ∧
    (s.txState = .tPayload →
      exec (.txData b) s = .next
        { s with
          txSum := s.txSum + b
          txRem := s.txRem - 1
          txState := if s.txRem = 1 then .tIdle else .tPayload
          txo := s.txo ++ escape (if s.txRem = 1 then [b, 0xFF - (s.txSum + b)] else [b]) s.txLesc })

/-- R97: `TX_START L` and its `L` bytes, with any other events between them but a reset, emit exactly the reference
frame in the mode of the start, and end in `T_IDLE`; and `SEND` alone always runs to its end. -/
def Obligations.FramerEmitsTheReferenceFrame : Prop :=
  (∀ (d : List Byte) (is : List Instr) (s t : State),
    d.length ≤ 65535 → s.txState = .tIdle → .softReset ∉ is →
    (is.filterMap fun | .txData b => some b | _ => none) = d →
    (is = [] ∨ ∃ b, is.getLast? = some (.txData b)) →
    runInstrs (.txStart (BitVec.ofNat 16 d.length) :: is) s = .next t →
      t.txo = s.txo ++ frame d s.ctrlEsc ∧ t.txState = .tIdle) ∧
  (∀ (d : List Byte) (s : State), d.length ≤ 65535 → s.txState = .tIdle →
    ∃ t, runInstrs (sendFrame d) s = .next t ∧ t.txo = s.txo ++ frame d s.ctrlEsc ∧ t.txState = .tIdle)

/-- R98: no receive-side event and no `DISPATCH_ACK` reads or writes the transmit registers or `TXO`; the framer works
alike in every receive state; only `SOFT_RESET` or its last byte closes an open frame, and what is emitted stays. -/
def Obligations.TransmitIsIndependentOfReceive : Prop :=
  (∀ (i : Instr) (r : TxRegs) (s : State), isReceiveSide i = true →
    exec i (withTxRegs r s) = mapNext (withTxRegs r) (exec i s)) ∧
  (∀ (i : Instr) (s t : State), isReceiveSide i = true → exec i s = .next t → t.txo = s.txo) ∧
  (∀ (i : Instr) (x : RxState) (s : State), (∃ l, i = .txStart l) ∨ (∃ b, i = .txData b) →
    exec i { s with rxState := x } = mapNext (fun t => { t with rxState := x }) (exec i s)) ∧
  (∀ (i : Instr) (s t : State), s.txState = .tPayload → exec i s = .next t → t.txState = .tIdle →
    (i = .softReset ∧ t.txo = s.txo) ∨ ((∃ b, i = .txData b) ∧ s.txRem = 1))

/-! ### Receive deframer -/

/-- R100: the word of `RX_BYTE`; in `IDLE` and `STOPPED` a byte is discarded, whatever it is. -/
def Obligations.BytesAreDiscardedWhenNotRunning : Prop :=
  (∀ b : Byte, decode (.event .transport (0x100000#24 ++ b)) = .ok (.rxByte b)) ∧
  (∀ (i : Instr) (b : Byte) (s : State), wireByteOf i = some b → s.rxState = .idle ∨ s.rxState = .stopped →
    exec i s = .next s)

/-- R101: in `SEEK` the delimiter opens a frame, sampling `CTRL`; any other byte is an `InvalidDelimiter`. -/
def Obligations.SeekFindsTheDelimiter : Prop :=
  ∀ (i : Instr) (b : Byte) (s : State), i.wf = true → wireByteOf i = some b → s.rxState = .seek →
    (b = 0x7E →
      exec i s = .next
        { s with
          rxLesc := s.ctrlEsc
          rxLrsync := s.ctrlRsync
          rxLen := 0
          rxCnt := 0
          rxSum := 0
          rxEpend := false
          pbuf := []
          rxState := .lenHi }) ∧
    (b ≠ 0x7E →
      exec i s = .next { s with evt := s.evt ++ [.invalidDelimiter b], cntInvdelim := s.cntInvdelim + 1 })

/-- R102: in `DISPATCH` no TRANSPORT event is consumed, examined or run; only `DISPATCH_ACK` and `SOFT_RESET` on the HOST
port lift the hold. That the held step and the held meanings answer `transportHeld` is the model's (log 10, DEDUCED): the
spec says only that the event stays and that no step is enabled. -/
def Obligations.TransportIsHeldInDispatch : Prop :=
  ∀ s : State, s.rxState = .dispatch →
    selectPort s ≠ some .transport ∧
    (s.host = [] → s.transport ≠ [] → step s = .fault .transportHeld) ∧
    (∀ t, step s = .next t → t.transport = s.transport ∧
      (t.rxState ≠ .dispatch → ∃ w rest, s.host = w :: rest ∧
        (decodeEvent .host w = .ok .softReset ∨ ∃ c, decodeEvent .host w = .ok (.dispatchAck c)))) ∧
    (∀ (i : Instr) (b : Byte), wireByteOf i = some b → exec i s = .fault .transportHeld) ∧
    exec .rxClose s = .fault .transportHeld

/-- R103: in a body state a byte is a resync, the first half of an escape pair, or a value byte handed to the accept rule
of the state. -/
def Obligations.BodyBytesAreUnescaped : Prop :=
  ∀ (i : Instr) (b : Byte) (x : BodyState) (s : State), i.wf = true → wireByteOf i = some b →
    s.rxState = (match x with | .lenHi => .lenHi | .lenLo => .lenLo | .payload => .payload | .checksum => .checksum) →
    (s.rxLesc = true ∧ s.rxLrsync = true ∧ b = 0x7E → exec i s = .next (resync x s)) ∧
    (s.rxLesc = true ∧ s.rxEpend = false ∧ b = 0x7D → exec i s = .next { s with rxEpend := true }) ∧
    (takesValue b s →
      exec i s = acceptValue x (if s.rxLesc = true ∧ s.rxEpend = true then b ^^^ 0x20 else b) s)

/-- R104: a raw `0x7E` in a body state, in escaped mode with `RSYNC` latched, is an `IncompleteFrame` and opens a new
frame with the modes `CTRL` has now. -/
def Obligations.RawDelimiterResyncs : Prop :=
  ∀ (i : Instr) (x : BodyState) (s : State), i.wf = true → wireByteOf i = some 0x7E →
    s.rxState = (match x with | .lenHi => .lenHi | .lenLo => .lenLo | .payload => .payload | .checksum => .checksum) →
    s.rxLesc = true → s.rxLrsync = true →
      exec i s = .next
        { s with
          evt := s.evt ++ [.incompleteFrame x s.rxEpend .resync]
          cntIncomplete := s.cntIncomplete + 1
          rxLesc := s.ctrlEsc
          rxLrsync := s.ctrlRsync
          rxLen := 0
          rxCnt := 0
          rxSum := 0
          rxEpend := false
          pbuf := []
          rxState := .lenHi }

/-- R105: the first length byte. -/
def Obligations.FirstLengthByteIsTheHighByte : Prop :=
  ∀ (i : Instr) (b : Byte) (s : State), i.wf = true → wireByteOf i = some b → s.rxState = .lenHi → takesValue b s →
    exec i s = .next
      { s with rxEpend := false, rxLen := BitVec.ofNat 16 (256 * (valueByte b s).toNat), rxState := .lenLo }

/-- R106: the second length byte; a frame of length 0 goes straight to its checksum. -/
def Obligations.SecondLengthByteIsTheLowByte : Prop :=
  ∀ (i : Instr) (b : Byte) (s : State), i.wf = true → wireByteOf i = some b → s.rxState = .lenLo → takesValue b s →
    ∃ l : Half, l.toNat = 256 * (s.rxLen.toNat / 256) + (valueByte b s).toNat ∧
      exec i s = .next
        { s with rxEpend := false, rxLen := l, rxState := if l = 0 then .checksum else .payload }

/-- R107: a frame-data byte is stored at index `RX_CNT`, added to `RX_SUM` and counted; every other cell of `PBUF` keeps
its byte. The guard `RX_CNT < RX_LEN` holds in `PAYLOAD` in every state of the invariant. -/
def Obligations.PayloadByteIsStored : Prop :=
  (∀ s : State, BlockInv s → s.rxState = .payload → s.rxCnt < s.rxLen) ∧
  ∀ (i : Instr) (b : Byte) (s : State), i.wf = true → wireByteOf i = some b → s.rxState = .payload → takesValue b s →
    s.rxCnt < s.rxLen →
    ∃ m : Memory,
      exec i s = .next
        { s with
          rxEpend := false
          pbuf := m
          rxSum := s.rxSum + valueByte b s
          rxCnt := s.rxCnt + 1
          rxState := if s.rxCnt + 1 = s.rxLen then .checksum else .payload } ∧
      Memory.read m s.rxCnt.toNat = some (valueByte b s) ∧
      ∀ a, a ≠ s.rxCnt.toNat → Memory.read m a = Memory.read s.pbuf a

/-- R108: the checksum byte: a passing frame goes to `VALIDATE`, any other is a `ChecksumError`. -/
def Obligations.ChecksumByteIsVerified : Prop :=
  ∀ (i : Instr) (b : Byte) (s : State), i.wf = true → wireByteOf i = some b → s.rxState = .checksum → takesValue b s →
    (s.rxSum + valueByte b s = 0xFF → exec i s = validate { s with rxEpend := false }) ∧
    (s.rxSum + valueByte b s ≠ 0xFF →
      exec i s = .next
        { s with
          rxEpend := false
          evt := s.evt ++ [.checksumError (valueByte b s) (0xFF - s.rxSum) s.rxLen]
          cntCksum := s.cntCksum + 1
          rxState := .seek })

/-- R109: the word of `RX_CLOSE`, and its effect in every receive state. The answer `transportHeld` in `DISPATCH` is the
model's (log 10, DEDUCED), for the `hold` of R109. -/
def Obligations.CloseStopsTheReceiver : Prop :=
  decode (.event .transport 0x20000000) = .ok .rxClose ∧
  ∀ s : State,
    (s.rxState = .stopped → exec .rxClose s = .next s) ∧
    (s.rxState = .dispatch → exec .rxClose s = .fault .transportHeld) ∧
    (s.rxState = .idle ∨ s.rxState = .seek →
      exec .rxClose s = .next { s with evt := s.evt ++ [.connectionLost], connlost := true, rxState := .stopped }) ∧
    (∀ x : BodyState,
      s.rxState = (match x with | .lenHi => .lenHi | .lenLo => .lenLo | .payload => .payload | .checksum => .checksum) →
      exec .rxClose s = .next
        { s with
          evt := s.evt ++ [.incompleteFrame x s.rxEpend .close, .connectionLost]
          cntIncomplete := s.cntIncomplete + 1
          rxEpend := false
          connlost := true
          rxState := .stopped })

/-- R64: `RX_BYTE` runs the row of its byte's class. -/
def Obligations.RxByteRunsItsClassRow : Prop :=
  ∀ (b : Byte) (s : State), exec (.rxByte b) s = exec (decodeWireByte b) s

/-- R111: no framing error is fatal: where each leaves the receiver, and that only `RX_CLOSE` reaches `STOPPED`. -/
def Obligations.FramingErrorsAreNotFatal : Prop :=
  (∀ (i : Instr) (s t : State), exec i s = .next t → t.rxState = .stopped → s.rxState = .stopped ∨ i = .rxClose) ∧
  (∀ (i : Instr) (s t : State) (e : EvtRecord), i ≠ .rxClose → exec i s = .next t → t.evt = s.evt ++ [e] →
    match e with
    | .invalidDelimiter _ => t.rxState = .seek
    | .checksumError _ _ _ => t.rxState = .seek
    | .malformedPacket _ _ _ => t.rxState = .seek
    | .incompleteFrame _ _ c => c = .resync ∧ t.rxState = .lenHi
    | .connectionLost => False)

/-- R110: the streaming receiver is the reference decoder driven by a scan: from `SEEK` with `RSYNC = 0`, the events and
the offers are those of `SCAN`, every `Offer` being acknowledged before the next byte. -/
def Obligations.ReceiverIsTheReferenceDecoder : Prop :=
  ∀ (w : List Byte) (claim : List DispRecord → Bool) (s : State), s.rxState = .seek → s.ctrlRsync = false →
    ∃ t, receiveAcked claim w s = .next t ∧
      t.evt.map plainEvt = s.evt.map plainEvt ++ (scan s.params s.ctrlEsc w.length w).evts ∧
      offersOf t.disp = offersOf s.disp ++ (scan s.params s.ctrlEsc w.length w).offers

/-- R112: a frame fed to a receiver in `SEEK` in its mode, with `RSYNC` either value, gives exactly one `Offer` of its
data, or one `MalformedPacket`. -/
def Obligations.LoopbackOffersTheFrame : Prop :=
  ∀ (d : List Byte) (s : State), d.length ≤ 65535 → s.rxState = .seek →
    ∃ t, runInstrs (feed (frame d s.ctrlEsc)) s = .next t ∧
      (malformed s.params d = true →
        t.rxState = .seek ∧ t.disp = s.disp ∧
          t.evt = s.evt ++ [.malformedPacket (!d.isEmpty) (d.headD 0) (BitVec.ofNat 16 d.length)]) ∧
      (malformed s.params d = false →
        t.rxState = .dispatch ∧ t.evt = s.evt ∧
          ∃ r : OfferRec, r.data = d ∧ r.len = BitVec.ofNat 16 d.length ∧ d.head? = some r.ft ∧
            t.disp = s.disp ++ [.offer r])

/-! ### Dispatcher -/

/-- R117: `VALIDATE`, and so every frame-type row on a frame of its type: a malformed frame is reported and not offered,
any other writes `DREC`, is counted and is offered; an empty frame is malformed, and any other runs the row that its
first byte decodes to. -/
def Obligations.FrameTypeRowsValidate : Prop :=
  (∀ (i : Instr) (ft : Byte) (t : List Byte) (s : State), frameTypeOf i = some ft → frameData s = some (ft :: t) →
    (malformed s.params (ft :: t) = true →
      exec i s = .next
        { s with
          evt := s.evt ++ [.malformedPacket true ft s.rxLen]
          cntMalformed := s.cntMalformed + 1
          rxState := .seek }) ∧
    (malformed s.params (ft :: t) = false → ∀ c, classify s.params (ft :: t) = some c →
      exec i s = .next
        { s with
          drec := ⟨ft, c.kind, c.known, c.fidv, c.fid, s.rxLen⟩
          cntFrames := s.cntFrames + 1
          disp := s.disp ++ [.offer ⟨ft, c.kind, c.known, c.fidv, c.fid, s.rxLen, ft :: t⟩]
          rxState := .dispatch })) ∧
  (∀ s : State, s.rxLen = 0 →
    validate s = .next
      { s with
        evt := s.evt ++ [.malformedPacket false 0 0]
        cntMalformed := s.cntMalformed + 1
        rxState := .seek }) ∧
  (∀ (ft : Byte) (t : List Byte) (s : State), frameData s = some (ft :: t) →
    frameTypeOf (decodeFrameType ft) = some ft ∧ validate s = exec (decodeFrameType ft) s)

/-- R115: `CLASSIFY`, for a table that is a finite map. That the frame id is the second byte is PRESUMED (log 9): the spec
takes the place from general knowledge (G4). That the predicate is a list of clauses, and when a clause holds, is the
model's (log 3, DESIGN CHOICE). -/
def Obligations.ClassifyFollowsTheTable : Prop :=
  (∀ (p : Params) (ft : Byte) (d : List Byte),
    isDiscovery p ft d = true ↔
      ∃ c ∈ p.discovery, ft = c.ft ∧ c.minLen ≤ d.length ∧ (∀ m, c.maxLen = some m → d.length ≤ m) ∧
        ∀ q ∈ c.bytes, d[q.1]? = some q.2) ∧
  ∀ (p : Params) (ft : Byte) (t : List Byte), p.wf = true →
    ∃ c, classify p (ft :: t) = some c ∧
      (isDiscovery p ft (ft :: t) = true → c.kind = .discovery) ∧
      (∀ e, (ft, e) ∈ p.frameTypes →
        c.known = true ∧ (isDiscovery p ft (ft :: t) = false → c.kind = e.kind) ∧
          (c.fidv = true ↔ e.hasFid = true ∧ t ≠ [])) ∧
      ((∀ e, (ft, e) ∉ p.frameTypes) →
        c.known = false ∧ (isDiscovery p ft (ft :: t) = false → c.kind = .generic) ∧ c.fidv = false) ∧
      (c.fidv = true → t.head? = some c.fid) ∧ (c.fidv = false → c.fid = 0)

/-- R116: `MALFORMED`, for a table that is a finite map. -/
def Obligations.MalformedIsTooShort : Prop :=
  ∀ (p : Params) (d : List Byte), p.wf = true →
    (malformed p d = true ↔ d = [] ∨ ∃ ft t e, d = ft :: t ∧ (ft, e) ∈ p.frameTypes ∧ d.length < e.minLen)

/-- R113 (log 2), R114 (log 3): the model's default table and default discovery predicate, PRESUMED: the spec marks both as
general knowledge (G2, G3). Of the table: byte, class, whether a frame id is present, minimum length. R119 (log 4): the
model's default dual kinds, the spec's own default for an open parameter. -/
def Obligations.DefaultFrameTypes : Prop :=
  defaultParams.wf = true ∧ State.reset.params = defaultParams ∧
  defaultParams.frameTypes.map (fun e => (e.1, e.2.kind, e.2.hasFid, e.2.minLen)) =
    [ (0x00, .generic, true, 11), (0x01, .generic, true, 5), (0x08, .generic, true, 4), (0x09, .generic, true, 4),
      (0x10, .generic, true, 14), (0x11, .generic, true, 20), (0x17, .generic, true, 15), (0x2D, .generic, true, 3),
      (0x80, .data, false, 11), (0x81, .data, false, 5), (0x82, .ioSample, false, 11), (0x83, .ioSample, false, 5),
      (0x88, .generic, true, 5), (0x89, .generic, true, 3), (0x8A, .modemStatus, false, 2), (0x8B, .generic, true, 7),
      (0x90, .data, false, 12), (0x91, .data, false, 18), (0x92, .ioSample, false, 12), (0x97, .generic, true, 15),
      (0xAD, .generic, false, 2), (0xFF, .generic, false, 1) ] ∧
  (∀ (ft : Byte) (d : List Byte),
    isDiscovery defaultParams ft d = true ↔ ft = 0x88 ∧ 4 ≤ d.length ∧ d[2]? = some 0x4E ∧ d[3]? = some 0x44) ∧
  defaultParams.dualKinds = [.data]

/-- R121: a frame of a type outside the table, not recognised as a discovery response, is offered unchanged, as an
opaque frame, when its checksum passes. -/
def Obligations.UnknownTypesAreOfferedUnchanged : Prop :=
  ∀ (i : Instr) (b ft : Byte) (t : List Byte) (s : State), i.wf = true → wireByteOf i = some b →
    s.rxState = .checksum → takesValue b s → s.rxSum + valueByte b s = 0xFF → frameData s = some (ft :: t) →
    (∀ e, (ft, e) ∉ s.params.frameTypes) → isDiscovery s.params ft (ft :: t) = false →
    ∃ u, exec i s = .next u ∧ u.rxState = .dispatch ∧ u.evt = s.evt ∧
      u.disp = s.disp ++ [.offer ⟨ft, .generic, false, false, 0, s.rxLen, ft :: t⟩]

/-- R120: `DISPATCH_ACK` delivers the offered frame and lifts the hold; outside `DISPATCH` it sets `BADCMD`. R119: the
route. -/
def Obligations.AcknowledgeDeliversTheFrame : Prop :=
  decode (.event .host 0x30000000) = .ok (.dispatchAck false) ∧
  decode (.event .host 0x30000001) = .ok (.dispatchAck true) ∧
  ∀ (claim : Bool) (s : State),
    (s.rxState ≠ .dispatch → exec (.dispatchAck claim) s = .next { s with badcmd := true }) ∧
    (s.rxState = .dispatch → ∀ d, drecData s = some d →
      exec (.dispatchAck claim) s = .next
        { s with
          disp := s.disp ++
            [.deliver ⟨s.drec.ft, s.drec.kind, s.drec.known, s.drec.fidv, s.drec.fid, s.drec.len, d⟩ claim
              (decide (claim = false ∨ s.drec.kind ∈ s.params.dualKinds))]
          rxState := .seek })

/-- R122: a checksum byte has exactly one of three outcomes; and a `Deliver` is never sent to neither. -/
def Obligations.OneFrameOneOutcome : Prop :=
  (∀ (i : Instr) (b : Byte) (s : State), i.wf = true → wireByteOf i = some b → BlockInv s → s.rxState = .checksum →
    takesValue b s →
    ∃ t, exec i s = .next t ∧
      ((t.rxState = .seek ∧ t.disp = s.disp ∧ ∃ r x l, t.evt = s.evt ++ [.checksumError r x l]) ∨
       (t.rxState = .seek ∧ t.disp = s.disp ∧ ∃ p ft l, t.evt = s.evt ++ [.malformedPacket p ft l]) ∨
       (t.rxState = .dispatch ∧ t.evt = s.evt ∧ ∃ r, t.disp = s.disp ++ [.offer r]))) ∧
  (∀ (dual : List Kind) (k : Kind) (c : Bool), (route dual k c).1 = true ∨ (route dual k c).2 = true)

/-- R53: `Offer`s and `Deliver`s alternate, each `Deliver` carrying the record of the `Offer` before it, as long as no
reset comes between. -/
def Obligations.OffersAreDeliveredInOrder : Prop :=
  ∀ (s t : State) (p : Port) (w : Word) (i : Instr), BlockInv s → decodeEvent p w = .ok i → i ≠ .softReset →
    pairedUp s.disp = true → (offerOpen s.disp = true ↔ s.rxState = .dispatch) → exec i s = .next t →
      pairedUp t.disp = true ∧ (offerOpen t.disp = true ↔ t.rxState = .dispatch)

/-! ### Control -/

/-- R126: `NOP`, on either port; on the TRANSPORT port it is held in `DISPATCH` like every event there. -/
def Obligations.NopHasNoEffect : Prop :=
  (∀ p : Port, decode (.event p 0x00000000) = .ok .nop) ∧
  (∀ s : State, exec .nop s = .next s) ∧
  (∀ s : State, s.rxState = .dispatch → selectPort s ≠ some .transport)

/-- R127: `CSR_READ` of each mapped address and of a reserved one; the fields of `STATUS` and `DREC_INFO` with the codes of
R24, R30 and R35. -/
def Obligations.CsrReadReturnsTheRegister : Prop :=
  (∀ a : Byte, decode (.event .host (0x70#8 ++ a ++ 0x0000#16)) = .ok (.csrRead a)) ∧
  ∀ s : State,
    (∀ p ∈ ([ (0x00, BitVec.ofNat 16 (s.ctrlEsc.toNat + 2 * s.ctrlRsync.toNat)),
              (0x01, BitVec.ofNat 16
                ((match s.rxState with
                  | .idle => 0 | .seek => 1 | .lenHi => 2 | .lenLo => 3
                  | .payload => 4 | .checksum => 5 | .dispatch => 6 | .stopped => 7) +
                8 * s.rxEpend.toNat + 16 * (match s.txState with | .tIdle => 0 | .tPayload => 1) +
                32 * s.txerr.toNat + 64 * s.badcmd.toNat + 128 * s.connlost.toNat + 256 * s.rxLesc.toNat +
                512 * s.txLesc.toNat)),
              (0x02, s.rxLen), (0x03, s.rxCnt), (0x04, BitVec.ofNat 16 s.rxSum.toNat), (0x05, s.txRem),
              (0x06, BitVec.ofNat 16 s.txSum.toNat),
              (0x07, BitVec.ofNat 16
                (s.drec.ft.toNat +
                256 * (match s.drec.kind with
                  | .generic => 0 | .data => 1 | .ioSample => 2 | .modemStatus => 3 | .discovery => 4) +
                2048 * s.drec.known.toNat + 4096 * s.drec.fidv.toNat)),
              (0x08, BitVec.ofNat 16 s.drec.fid.toNat), (0x09, s.drec.len), (0x10, s.cntFrames),
              (0x11, s.cntInvdelim), (0x12, s.cntIncomplete), (0x13, s.cntCksum),
              (0x14, s.cntMalformed) ] : List (Byte × Half)),
        exec (.csrRead p.1) s = .next { s with csro := s.csro ++ [p.2] }) ∧
    (∀ a : Byte, 0x0A ≤ a ∧ a ≤ 0x0F ∨ 0x15 ≤ a →
      exec (.csrRead a) s = .next { s with csro := s.csro ++ [0], badcmd := true })

/-- R128, R129, R130: `CSR_WRITE`: `CTRL` takes bits 0 and 1, `STATUS` clears the sticky bits written with 1, every other
address is refused with `BADCMD`. -/
def Obligations.CsrWriteEffects : Prop :=
  (∀ d : Half, decode (.event .host (0x6000#16 ++ d)) = .ok (.csrWriteCtrl d) ∧
    decode (.event .host (0x6001#16 ++ d)) = .ok (.csrWriteStatus d)) ∧
  (∀ (d : Half) (s : State),
    exec (.csrWriteCtrl d) s = .next { s with ctrlEsc := d.getLsbD 0, ctrlRsync := d.getLsbD 1 }) ∧
  (∀ (d : Half) (s : State),
    exec (.csrWriteStatus d) s = .next
      { s with
        txerr := if d.getLsbD 5 = true then false else s.txerr
        badcmd := if d.getLsbD 6 = true then false else s.badcmd
        connlost := if d.getLsbD 7 = true then false else s.connlost }) ∧
  (∀ (a : Byte) (d : Half) (s : State), (Instr.csrWrite a d).wf = true →
    exec (.csrWrite a d) s = .next { s with badcmd := true })

/-- R131: `START`. -/
def Obligations.StartBeginsReceiving : Prop :=
  decode (.event .host 0x80000000) = .ok .start ∧
  ∀ s : State,
    (s.rxState = .idle ∨ s.rxState = .stopped →
      exec .start s = .next
        { s with rxLen := 0, rxCnt := 0, rxSum := 0, rxEpend := false, pbuf := [], rxState := .seek }) ∧
    (s.rxState ≠ .idle → s.rxState ≠ .stopped → exec .start s = .next s)

/-- R171, R132, R172: reset sets every element to its reset value and leaves the ports, the streams and the parameters;
after it every mapped CSR reads 0. `turn` is the model's own (log 1). `SOFT_RESET` and the state of a model run's start are that reset. -/
def Obligations.ResetValues : Prop :=
  decode (.event .host 0x90000000) = .ok .softReset ∧
  (∀ s : State, exec .softReset s = .next
    { ctrlEsc := false, ctrlRsync := false, txerr := false, badcmd := false, connlost := false, rxState := .idle,
      rxLesc := false, rxLrsync := false, rxEpend := false, rxLen := 0, rxCnt := 0, rxSum := 0, txState := .tIdle,
      txLesc := false, txRem := 0, txSum := 0, pbuf := [],
      drec := { ft := 0, kind := .generic, known := false, fidv := false, fid := 0, len := 0 },
      cntFrames := 0, cntInvdelim := 0, cntIncomplete := 0, cntCksum := 0, cntMalformed := 0,
      transport := s.transport, host := s.host, txo := s.txo, evt := s.evt, disp := s.disp, csro := s.csro,
      params := s.params, turn := s.turn }) ∧
  exec .softReset State.reset = .next State.reset ∧
  (∀ (s t : State) (a : Byte), exec .softReset s = .next t → a ≤ 0x09 ∨ 0x10 ≤ a ∧ a ≤ 0x14 →
    exec (.csrRead a) t = .next { t with csro := t.csro ++ [0] })

/-- R25, R31, R176: a `CTRL` write is seen only at the next delimiter or `TX_START`: no other event reads `CTRL`. -/
def Obligations.ModeIsReadOnlyAtFrameStarts : Prop :=
  ∀ (i : Instr) (e r : Bool) (s : State), i.wf = true →
    (∀ l, i ≠ .txStart l) → i ≠ .csrRead 0x00 → (∀ d, i ≠ .csrWriteCtrl d) → i ≠ .softReset →
    ¬(wireByteOf i = some 0x7E ∧
      (s.rxState = .seek ∨ isBody s.rxState = true ∧ s.rxLesc = true ∧ s.rxLrsync = true)) →
      exec i (withCtrl e r s) = mapNext (withCtrl e r) (exec i s)

/-- R39: a set sticky flag changes nothing else: no event but a read of `STATUS` depends on the flags, up to the flags
themselves. -/
def Obligations.StickyFlagsDecideNothing : Prop :=
  ∀ (i : Instr) (a b c : Bool) (s : State), i ≠ .csrRead 0x01 →
    mapNext (withSticky false false false) (exec i (withSticky a b c s)) =
      mapNext (withSticky false false false) (exec i s)

/-- R36: each counter counts its events modulo 2^16 and only reset clears it. -/
def Obligations.CountersCountEvents : Prop :=
  (∀ (i : Instr) (s t : State), i ≠ .softReset → exec i s = .next t →
    ∃ (es : List EvtRecord) (rs : List DispRecord), t.evt = s.evt ++ es ∧ t.disp = s.disp ++ rs ∧
      t.cntFrames = s.cntFrames + BitVec.ofNat 16 (offersOf rs).length ∧
      t.cntInvdelim = s.cntInvdelim + BitVec.ofNat 16 (es.countP fun e => evtCode e == 1) ∧
      t.cntIncomplete = s.cntIncomplete + BitVec.ofNat 16 (es.countP fun e => evtCode e == 2) ∧
      t.cntCksum = s.cntCksum + BitVec.ofNat 16 (es.countP fun e => evtCode e == 3) ∧
      t.cntMalformed = s.cntMalformed + BitVec.ofNat 16 (es.countP fun e => evtCode e == 4)) ∧
  (∀ s t : State, exec .softReset s = .next t → t.cntFrames = 0 ∧ t.cntInvdelim = 0 ∧ t.cntIncomplete = 0 ∧
    t.cntCksum = 0 ∧ t.cntMalformed = 0)

/-- R38, R172: the streams are append-only, whatever the event, reset included; and no event writes the parameters or
puts anything on a port. -/
def Obligations.StreamsOnlyGrow : Prop :=
  ∀ (i : Instr) (s t : State), exec i s = .next t →
    s.txo <+: t.txo ∧ s.evt <+: t.evt ∧ s.disp <+: t.disp ∧ s.csro <+: t.csro ∧
      t.params = s.params ∧ t.transport = s.transport ∧ t.host = s.host

/-! ### Memory -/

/-- R8, R47: a byte written is read back, and every other cell keeps its byte; the canonical form is kept by a write
inside the buffer. -/
def Obligations.BufferReadsWhatWasWritten : Prop :=
  ∀ (m : Memory) (a : Nat) (b : Byte), m.wf = true →
    Memory.read (Memory.write a b m) a = some b ∧
    (∀ k, k ≠ a → Memory.read (Memory.write a b m) k = Memory.read m k) ∧
    (a < 65535 → (Memory.write a b m).wf = true)

/-- R47: the buffer keeps its canonical form, never holds an index beyond 65534, and what the dispatcher reads was
written in the current frame: follows from the invariant. -/
def Obligations.InvariantBoundsTheBuffer : Prop :=
  ∀ s : State, BlockInv s → s.pbuf.wf = true ∧ s.pbuf.length = s.rxCnt.toNat ∧ (∀ c ∈ s.pbuf, c.1 < 65535) ∧
    (s.rxState = .checksum ∨ s.rxState = .dispatch → frameData s = some (pbufBytes s))

/-! ### The machine -/

/-- R51, R52: a step at a state whose selected port's head decodes to `i` is `i`'s meaning on the state with that head
consumed; consuming takes the head off its port, counts the step (the model's own counter, log 1), and changes nothing
else. -/
def Obligations.StepRunsTheDecodedInstruction : Prop :=
  ∀ (s : State) (p : Port) (w : Word) (rest : List Word) (i : Instr),
    selectPort s = some p → portQueue p s = w :: rest → decodeEvent p w = .ok i →
      step s = exec i (consume p s) ∧
      consume p s =
        { s with
          transport := if p = .transport then rest else s.transport
          host := if p = .host then rest else s.host
          turn := s.turn + 1 }

/-- R51, R52: a step consumes the head of exactly one port whose head is enabled; the other port is untouched. The
last clause is the model's own counter (log 1). -/
def Obligations.StepConsumesOneHead : Prop :=
  ∀ s t : State, step s = .next t →
    ∃ (p q : Port) (w : Word), p ≠ q ∧ portEnabled p s = true ∧ portQueue p s = w :: portQueue p t ∧
      portQueue q t = portQueue q s ∧ t.turn = s.turn + 1

/-- R52: with one head enabled that port is served; with two, one of them; with none, none. -/
def Obligations.EnabledHeadsAreServed : Prop :=
  ∀ s : State,
    (portEnabled .host s = true ↔ s.host ≠ []) ∧
    (portEnabled .transport s = true ↔ s.transport ≠ [] ∧ s.rxState ≠ .dispatch) ∧
    (∀ p, selectPort s = some p → portEnabled p s = true) ∧
    (selectPort s = none ↔ ∀ p, portEnabled p s = false)

/-- The model's own (INVENTORY, Faults; cites R26, R28, R35, R47): every step keeps the block's invariant. -/
def Obligations.EveryStepKeepsTheInvariant : Prop :=
  ∀ s t : State, BlockInv s → step s = .next t → BlockInv t

/-- The state after reset has the invariant. -/
def Obligations.ResetHasTheInvariant : Prop :=
  BlockInv State.reset

/-- R182, R160: in a state of the invariant a step has a next state exactly when the run has not ended; otherwise both
ports are empty, or only the held TRANSPORT port has an event. No step traps, reads an unwritten cell or is refused. The
outcomes that stand for these are the model's: `endOfRun` and `transportHeld` (log 10, DEDUCED), `pbufUnwritten` (log 6,
DESIGN CHOICE). -/
def Obligations.RunsEndOnlyWhenNoHeadIsEnabled : Prop :=
  ∀ s : State, BlockInv s →
    ((∃ t, step s = .next t) ↔ runEnded s = false) ∧
    (step s = .fault .endOfRun ↔ s.transport = [] ∧ s.host = []) ∧
    (step s = .fault .transportHeld ↔ s.host = [] ∧ s.transport ≠ [] ∧ s.rxState = .dispatch) ∧
    step s ≠ .fault .pbufUnwritten ∧ (∀ r, step s ≠ .refused r)
end

