-- ==== Sys2Proof/Laws/Decode.lean ====
section
/-! SUPPORT. The rows of the port-event table as arithmetic on the word, and what the three decoders answer. -/

namespace Sys2Proof.Laws

theorem and_highMask (w : Word) (k : Nat) : w &&& (BitVec.allOnes 32 <<< k) = (w >>> k) <<< k := by
  ext i hi
  simp only [BitVec.getElem_and, BitVec.getElem_shiftLeft, BitVec.getElem_allOnes]
  by_cases h : i < k
  · simp [h]
  · have : k + (i - k) = i := by omega
    simp [h, BitVec.getLsbD_eq_getElem, hi, this]

/-- A row whose mask keeps the bits from `k` up hits the words with the row's upper bits. -/
theorem and_highMask_eq_iff (w p : Word) (k : Nat) (hp : p.toNat % 2 ^ k = 0) :
    w &&& (BitVec.allOnes 32 <<< k) = p ↔ w.toNat / 2 ^ k = p.toNat / 2 ^ k := by
  rw [and_highMask]
  constructor
  · intro h
    have := congrArg BitVec.toNat h
    simp only [BitVec.toNat_shiftLeft, BitVec.toNat_ushiftRight, Nat.shiftLeft_eq, Nat.shiftRight_eq_div_pow] at this
    rw [Nat.mod_eq_of_lt] at this
    · rw [← this, Nat.mul_div_cancel _ (by positivity)]
    · exact lt_of_le_of_lt (Nat.div_mul_le_self _ _) w.isLt
  · intro h
    apply BitVec.eq_of_toNat_eq
    simp only [BitVec.toNat_shiftLeft, BitVec.toNat_ushiftRight, Nat.shiftLeft_eq, Nat.shiftRight_eq_div_pow]
    rw [h, Nat.div_mul_cancel (Nat.dvd_of_mod_eq_zero hp), Nat.mod_eq_of_lt p.isLt]

theorem hits_nop (w : Word) : w &&& 0xFFFFFFFF = (0x00000000 : Word) ↔ w.toNat = 0 := by
  have := and_highMask_eq_iff w 0x00000000 0 (Nat.mod_one _)
  rw [Nat.pow_zero, Nat.div_one, Nat.div_one] at this
  exact this

theorem hits_rxByte (w : Word) : w &&& 0xFFFFFF00 = (0x10000000 : Word) ↔ w.toNat / 256 = 0x100000 :=
  and_highMask_eq_iff w 0x10000000 8 (by decide)

theorem hits_rxClose (w : Word) : w &&& 0xFFFFFFFF = (0x20000000 : Word) ↔ w.toNat = 0x20000000 := by
  have := and_highMask_eq_iff w 0x20000000 0 (Nat.mod_one _)
  rw [Nat.pow_zero, Nat.div_one, Nat.div_one] at this
  exact this

theorem hits_dispatchAck (w : Word) : w &&& 0xFFFFFFFE = (0x30000000 : Word) ↔ w.toNat / 2 = 0x18000000 :=
  and_highMask_eq_iff w 0x30000000 1 (by decide)

theorem hits_txStart (w : Word) : w &&& 0xFFFF0000 = (0x40000000 : Word) ↔ w.toNat / 65536 = 0x4000 :=
  and_highMask_eq_iff w 0x40000000 16 (by decide)

theorem hits_txData (w : Word) : w &&& 0xFFFFFF00 = (0x50000000 : Word) ↔ w.toNat / 256 = 0x500000 :=
  and_highMask_eq_iff w 0x50000000 8 (by decide)

theorem hits_csrWriteCtrl (w : Word) : w &&& 0xFFFF0000 = (0x60000000 : Word) ↔ w.toNat / 65536 = 0x6000 :=
  and_highMask_eq_iff w 0x60000000 16 (by decide)

theorem hits_csrWriteStatus (w : Word) : w &&& 0xFFFF0000 = (0x60010000 : Word) ↔ w.toNat / 65536 = 0x6001 :=
  and_highMask_eq_iff w 0x60010000 16 (by decide)

theorem hits_csrWrite (w : Word) : w &&& 0xFF000000 = (0x60000000 : Word) ↔ w.toNat / 16777216 = 0x60 :=
  and_highMask_eq_iff w 0x60000000 24 (by decide)

/-- The `CSR_READ` row's mask has a gap, the address. -/
theorem hits_csrRead (w : Word) :
    w &&& 0xFF00FFFF = (0x70000000 : Word) ↔ w.toNat / 16777216 = 0x70 ∧ w.toNat % 65536 = 0 := by
  have split : (0xFF00FFFF : Word) = 0xFF000000 ||| 0x0000FFFF := by decide
  have low : (w &&& 0x0000FFFF) = (0 : Word) ↔ w.toNat % 65536 = 0 := by
    rw [← BitVec.toNat_inj]
    have h : (w &&& (0x0000FFFF : Word)).toNat = w.toNat % 2 ^ 16 := by
      rw [BitVec.toNat_and]; exact Nat.and_two_pow_sub_one_eq_mod w.toNat 16
    rw [h]; rfl
  have high : w &&& 0xFF000000 = (0x70000000 : Word) ↔ w.toNat / 16777216 = 0x70 :=
    and_highMask_eq_iff w 0x70000000 24 (by decide)
  rw [← low]
  constructor
  · intro h
    constructor
    · apply high.1
      have := congrArg (· &&& (0xFF000000 : Word)) h
      simpa [BitVec.and_assoc] using this
    · have := congrArg (· &&& (0x0000FFFF : Word)) h
      simpa [BitVec.and_assoc] using this
  · rintro ⟨h1, h2⟩
    have h1' := high.2 h1
    rw [split, BitVec.and_or_distrib_left, h1', h2]
    decide

theorem hits_start (w : Word) : w &&& 0xFFFFFFFF = (0x80000000 : Word) ↔ w.toNat = 0x80000000 := by
  have := and_highMask_eq_iff w 0x80000000 0 (Nat.mod_one _)
  rw [Nat.pow_zero, Nat.div_one, Nat.div_one] at this
  exact this

theorem hits_softReset (w : Word) : w &&& 0xFFFFFFFF = (0x90000000 : Word) ↔ w.toNat = 0x90000000 := by
  have := and_highMask_eq_iff w 0x90000000 0 (Nat.mod_one _)
  rw [Nat.pow_zero, Nat.div_one, Nat.div_one] at this
  exact this

theorem hits_reservedAB (w : Word) : w &&& 0xE0000000 = (0xA0000000 : Word) ↔ w.toNat / 536870912 = 5 :=
  and_highMask_eq_iff w 0xA0000000 29 (by decide)

theorem hits_reservedCF (w : Word) : w &&& 0xC0000000 = (0xC0000000 : Word) ↔ w.toNat / 1073741824 = 3 :=
  and_highMask_eq_iff w 0xC0000000 30 (by decide)

/-- An instruction on its own port, else the reserved word of a wrong port (R72). -/
def onPort (own p : Port) (i : Instr) : Except DecodeReject Instr :=
  if own = p then .ok i else .error .wrongPort

/-- The decoder over any list of rows: the first row that hits the word decides. -/
def decodeRows (rows : List EventRow) (p : Port) (w : Word) : Except DecodeReject Instr :=
  match rows.find? (·.hits w) with
  | none => .error .noRow
  | some r => if r.port = none ∨ r.port = some p then .ok (r.build w) else .error .wrongPort

theorem decodeRows_cons (r : EventRow) (rows : List EventRow) (p : Port) (w : Word) :
    decodeRows (r :: rows) p w =
      if w &&& r.mask = r.pattern then (if r.port = none ∨ r.port = some p then .ok (r.build w) else .error .wrongPort)
      else decodeRows rows p w := by
  by_cases h : w &&& r.mask = r.pattern <;> simp [decodeRows, EventRow.hits, h]

theorem rowResult_own (q p : Port) (i : Instr) :
    (if (some q : Option Port) = none ∨ some q = some p then Except.ok i else .error DecodeReject.wrongPort) =
      onPort q p i := by
  simp [onPort]

/-- The decoder as a chain of conditions on the word's number (R70). -/
theorem decodeEvent_eq (p : Port) (w : Word) :
    decodeEvent p w =
      if w.toNat = 0 then .ok .nop
      else if w.toNat / 256 = 0x100000 then onPort .transport p (.rxByte (fieldByte w))
      else if w.toNat = 0x20000000 then onPort .transport p .rxClose
      else if w.toNat / 2 = 0x18000000 then onPort .host p (.dispatchAck (fieldClaim w))
      else if w.toNat / 65536 = 0x4000 then onPort .host p (.txStart (fieldHalf w))
      else if w.toNat / 256 = 0x500000 then onPort .host p (.txData (fieldByte w))
      else if w.toNat / 65536 = 0x6000 then onPort .host p (.csrWriteCtrl (fieldHalf w))
      else if w.toNat / 65536 = 0x6001 then onPort .host p (.csrWriteStatus (fieldHalf w))
      else if w.toNat / 16777216 = 0x60 then onPort .host p (.csrWrite (fieldAddr w) (fieldHalf w))
      else if w.toNat / 16777216 = 0x70 ∧ w.toNat % 65536 = 0 then onPort .host p (.csrRead (fieldAddr w))
      else if w.toNat = 0x80000000 then onPort .host p .start
      else if w.toNat = 0x90000000 then onPort .host p .softReset
      else if w.toNat / 536870912 = 5 then .ok (.reservedAB (w.extractLsb' 0 29))
      else if w.toNat / 1073741824 = 3 then .ok (.reservedCF (w.extractLsb' 0 30))
      else .error .noRow := by
  change decodeRows eventRows p w = _
  simp only [eventRows, decodeRows_cons, rowResult_own, hits_nop, hits_rxByte, hits_rxClose,
    hits_dispatchAck, hits_txStart, hits_txData, hits_csrWriteCtrl, hits_csrWriteStatus, hits_csrWrite, hits_csrRead,
    hits_start, hits_softReset, hits_reservedAB, hits_reservedCF]
  rfl

end Sys2Proof.Laws
end

