-- ==== Sys2Proof/Laws/State.lean ====
section
/-! SUPPORT. One lemma per field per named update of the state: what the update does to the field, true by rfl. -/

namespace Sys2Proof.Machine

variable (s : State)

@[simp] theorem setTxerr_ctrlEsc : (setTxerr s).ctrlEsc = s.ctrlEsc := rfl
@[simp] theorem setTxerr_ctrlRsync : (setTxerr s).ctrlRsync = s.ctrlRsync := rfl
@[simp] theorem setTxerr_txerr : (setTxerr s).txerr = true := rfl
@[simp] theorem setTxerr_badcmd : (setTxerr s).badcmd = s.badcmd := rfl
@[simp] theorem setTxerr_connlost : (setTxerr s).connlost = s.connlost := rfl
@[simp] theorem setTxerr_rxState : (setTxerr s).rxState = s.rxState := rfl
@[simp] theorem setTxerr_rxLesc : (setTxerr s).rxLesc = s.rxLesc := rfl
@[simp] theorem setTxerr_rxLrsync : (setTxerr s).rxLrsync = s.rxLrsync := rfl
@[simp] theorem setTxerr_rxEpend : (setTxerr s).rxEpend = s.rxEpend := rfl
@[simp] theorem setTxerr_rxLen : (setTxerr s).rxLen = s.rxLen := rfl
@[simp] theorem setTxerr_rxCnt : (setTxerr s).rxCnt = s.rxCnt := rfl
@[simp] theorem setTxerr_rxSum : (setTxerr s).rxSum = s.rxSum := rfl
@[simp] theorem setTxerr_txState : (setTxerr s).txState = s.txState := rfl
@[simp] theorem setTxerr_txLesc : (setTxerr s).txLesc = s.txLesc := rfl
@[simp] theorem setTxerr_txRem : (setTxerr s).txRem = s.txRem := rfl
@[simp] theorem setTxerr_txSum : (setTxerr s).txSum = s.txSum := rfl
@[simp] theorem setTxerr_pbuf : (setTxerr s).pbuf = s.pbuf := rfl
@[simp] theorem setTxerr_drec : (setTxerr s).drec = s.drec := rfl
@[simp] theorem setTxerr_cntFrames : (setTxerr s).cntFrames = s.cntFrames := rfl
@[simp] theorem setTxerr_cntInvdelim : (setTxerr s).cntInvdelim = s.cntInvdelim := rfl
@[simp] theorem setTxerr_cntIncomplete : (setTxerr s).cntIncomplete = s.cntIncomplete := rfl
@[simp] theorem setTxerr_cntCksum : (setTxerr s).cntCksum = s.cntCksum := rfl
@[simp] theorem setTxerr_cntMalformed : (setTxerr s).cntMalformed = s.cntMalformed := rfl
@[simp] theorem setTxerr_transport : (setTxerr s).transport = s.transport := rfl
@[simp] theorem setTxerr_host : (setTxerr s).host = s.host := rfl
@[simp] theorem setTxerr_txo : (setTxerr s).txo = s.txo := rfl
@[simp] theorem setTxerr_evt : (setTxerr s).evt = s.evt := rfl
@[simp] theorem setTxerr_disp : (setTxerr s).disp = s.disp := rfl
@[simp] theorem setTxerr_csro : (setTxerr s).csro = s.csro := rfl
@[simp] theorem setTxerr_params : (setTxerr s).params = s.params := rfl
@[simp] theorem setTxerr_turn : (setTxerr s).turn = s.turn := rfl

@[simp] theorem setBadcmd_ctrlEsc : (setBadcmd s).ctrlEsc = s.ctrlEsc := rfl
@[simp] theorem setBadcmd_ctrlRsync : (setBadcmd s).ctrlRsync = s.ctrlRsync := rfl
@[simp] theorem setBadcmd_txerr : (setBadcmd s).txerr = s.txerr := rfl
@[simp] theorem setBadcmd_badcmd : (setBadcmd s).badcmd = true := rfl
@[simp] theorem setBadcmd_connlost : (setBadcmd s).connlost = s.connlost := rfl
@[simp] theorem setBadcmd_rxState : (setBadcmd s).rxState = s.rxState := rfl
@[simp] theorem setBadcmd_rxLesc : (setBadcmd s).rxLesc = s.rxLesc := rfl
@[simp] theorem setBadcmd_rxLrsync : (setBadcmd s).rxLrsync = s.rxLrsync := rfl
@[simp] theorem setBadcmd_rxEpend : (setBadcmd s).rxEpend = s.rxEpend := rfl
@[simp] theorem setBadcmd_rxLen : (setBadcmd s).rxLen = s.rxLen := rfl
@[simp] theorem setBadcmd_rxCnt : (setBadcmd s).rxCnt = s.rxCnt := rfl
@[simp] theorem setBadcmd_rxSum : (setBadcmd s).rxSum = s.rxSum := rfl
@[simp] theorem setBadcmd_txState : (setBadcmd s).txState = s.txState := rfl
@[simp] theorem setBadcmd_txLesc : (setBadcmd s).txLesc = s.txLesc := rfl
@[simp] theorem setBadcmd_txRem : (setBadcmd s).txRem = s.txRem := rfl
@[simp] theorem setBadcmd_txSum : (setBadcmd s).txSum = s.txSum := rfl
@[simp] theorem setBadcmd_pbuf : (setBadcmd s).pbuf = s.pbuf := rfl
@[simp] theorem setBadcmd_drec : (setBadcmd s).drec = s.drec := rfl
@[simp] theorem setBadcmd_cntFrames : (setBadcmd s).cntFrames = s.cntFrames := rfl
@[simp] theorem setBadcmd_cntInvdelim : (setBadcmd s).cntInvdelim = s.cntInvdelim := rfl
@[simp] theorem setBadcmd_cntIncomplete : (setBadcmd s).cntIncomplete = s.cntIncomplete := rfl
@[simp] theorem setBadcmd_cntCksum : (setBadcmd s).cntCksum = s.cntCksum := rfl
@[simp] theorem setBadcmd_cntMalformed : (setBadcmd s).cntMalformed = s.cntMalformed := rfl
@[simp] theorem setBadcmd_transport : (setBadcmd s).transport = s.transport := rfl
@[simp] theorem setBadcmd_host : (setBadcmd s).host = s.host := rfl
@[simp] theorem setBadcmd_txo : (setBadcmd s).txo = s.txo := rfl
@[simp] theorem setBadcmd_evt : (setBadcmd s).evt = s.evt := rfl
@[simp] theorem setBadcmd_disp : (setBadcmd s).disp = s.disp := rfl
@[simp] theorem setBadcmd_csro : (setBadcmd s).csro = s.csro := rfl
@[simp] theorem setBadcmd_params : (setBadcmd s).params = s.params := rfl
@[simp] theorem setBadcmd_turn : (setBadcmd s).turn = s.turn := rfl

@[simp] theorem setConnlost_ctrlEsc : (setConnlost s).ctrlEsc = s.ctrlEsc := rfl
@[simp] theorem setConnlost_ctrlRsync : (setConnlost s).ctrlRsync = s.ctrlRsync := rfl
@[simp] theorem setConnlost_txerr : (setConnlost s).txerr = s.txerr := rfl
@[simp] theorem setConnlost_badcmd : (setConnlost s).badcmd = s.badcmd := rfl
@[simp] theorem setConnlost_connlost : (setConnlost s).connlost = true := rfl
@[simp] theorem setConnlost_rxState : (setConnlost s).rxState = s.rxState := rfl
@[simp] theorem setConnlost_rxLesc : (setConnlost s).rxLesc = s.rxLesc := rfl
@[simp] theorem setConnlost_rxLrsync : (setConnlost s).rxLrsync = s.rxLrsync := rfl
@[simp] theorem setConnlost_rxEpend : (setConnlost s).rxEpend = s.rxEpend := rfl
@[simp] theorem setConnlost_rxLen : (setConnlost s).rxLen = s.rxLen := rfl
@[simp] theorem setConnlost_rxCnt : (setConnlost s).rxCnt = s.rxCnt := rfl
@[simp] theorem setConnlost_rxSum : (setConnlost s).rxSum = s.rxSum := rfl
@[simp] theorem setConnlost_txState : (setConnlost s).txState = s.txState := rfl
@[simp] theorem setConnlost_txLesc : (setConnlost s).txLesc = s.txLesc := rfl
@[simp] theorem setConnlost_txRem : (setConnlost s).txRem = s.txRem := rfl
@[simp] theorem setConnlost_txSum : (setConnlost s).txSum = s.txSum := rfl
@[simp] theorem setConnlost_pbuf : (setConnlost s).pbuf = s.pbuf := rfl
@[simp] theorem setConnlost_drec : (setConnlost s).drec = s.drec := rfl
@[simp] theorem setConnlost_cntFrames : (setConnlost s).cntFrames = s.cntFrames := rfl
@[simp] theorem setConnlost_cntInvdelim : (setConnlost s).cntInvdelim = s.cntInvdelim := rfl
@[simp] theorem setConnlost_cntIncomplete : (setConnlost s).cntIncomplete = s.cntIncomplete := rfl
@[simp] theorem setConnlost_cntCksum : (setConnlost s).cntCksum = s.cntCksum := rfl
@[simp] theorem setConnlost_cntMalformed : (setConnlost s).cntMalformed = s.cntMalformed := rfl
@[simp] theorem setConnlost_transport : (setConnlost s).transport = s.transport := rfl
@[simp] theorem setConnlost_host : (setConnlost s).host = s.host := rfl
@[simp] theorem setConnlost_txo : (setConnlost s).txo = s.txo := rfl
@[simp] theorem setConnlost_evt : (setConnlost s).evt = s.evt := rfl
@[simp] theorem setConnlost_disp : (setConnlost s).disp = s.disp := rfl
@[simp] theorem setConnlost_csro : (setConnlost s).csro = s.csro := rfl
@[simp] theorem setConnlost_params : (setConnlost s).params = s.params := rfl
@[simp] theorem setConnlost_turn : (setConnlost s).turn = s.turn := rfl

@[simp] theorem emitTxo_ctrlEsc (bs : List Byte) : (emitTxo bs s).ctrlEsc = s.ctrlEsc := rfl
@[simp] theorem emitTxo_ctrlRsync (bs : List Byte) : (emitTxo bs s).ctrlRsync = s.ctrlRsync := rfl
@[simp] theorem emitTxo_txerr (bs : List Byte) : (emitTxo bs s).txerr = s.txerr := rfl
@[simp] theorem emitTxo_badcmd (bs : List Byte) : (emitTxo bs s).badcmd = s.badcmd := rfl
@[simp] theorem emitTxo_connlost (bs : List Byte) : (emitTxo bs s).connlost = s.connlost := rfl
@[simp] theorem emitTxo_rxState (bs : List Byte) : (emitTxo bs s).rxState = s.rxState := rfl
@[simp] theorem emitTxo_rxLesc (bs : List Byte) : (emitTxo bs s).rxLesc = s.rxLesc := rfl
@[simp] theorem emitTxo_rxLrsync (bs : List Byte) : (emitTxo bs s).rxLrsync = s.rxLrsync := rfl
@[simp] theorem emitTxo_rxEpend (bs : List Byte) : (emitTxo bs s).rxEpend = s.rxEpend := rfl
@[simp] theorem emitTxo_rxLen (bs : List Byte) : (emitTxo bs s).rxLen = s.rxLen := rfl
@[simp] theorem emitTxo_rxCnt (bs : List Byte) : (emitTxo bs s).rxCnt = s.rxCnt := rfl
@[simp] theorem emitTxo_rxSum (bs : List Byte) : (emitTxo bs s).rxSum = s.rxSum := rfl
@[simp] theorem emitTxo_txState (bs : List Byte) : (emitTxo bs s).txState = s.txState := rfl
@[simp] theorem emitTxo_txLesc (bs : List Byte) : (emitTxo bs s).txLesc = s.txLesc := rfl
@[simp] theorem emitTxo_txRem (bs : List Byte) : (emitTxo bs s).txRem = s.txRem := rfl
@[simp] theorem emitTxo_txSum (bs : List Byte) : (emitTxo bs s).txSum = s.txSum := rfl
@[simp] theorem emitTxo_pbuf (bs : List Byte) : (emitTxo bs s).pbuf = s.pbuf := rfl
@[simp] theorem emitTxo_drec (bs : List Byte) : (emitTxo bs s).drec = s.drec := rfl
@[simp] theorem emitTxo_cntFrames (bs : List Byte) : (emitTxo bs s).cntFrames = s.cntFrames := rfl
@[simp] theorem emitTxo_cntInvdelim (bs : List Byte) : (emitTxo bs s).cntInvdelim = s.cntInvdelim := rfl
@[simp] theorem emitTxo_cntIncomplete (bs : List Byte) : (emitTxo bs s).cntIncomplete = s.cntIncomplete := rfl
@[simp] theorem emitTxo_cntCksum (bs : List Byte) : (emitTxo bs s).cntCksum = s.cntCksum := rfl
@[simp] theorem emitTxo_cntMalformed (bs : List Byte) : (emitTxo bs s).cntMalformed = s.cntMalformed := rfl
@[simp] theorem emitTxo_transport (bs : List Byte) : (emitTxo bs s).transport = s.transport := rfl
@[simp] theorem emitTxo_host (bs : List Byte) : (emitTxo bs s).host = s.host := rfl
@[simp] theorem emitTxo_txo (bs : List Byte) : (emitTxo bs s).txo = s.txo ++ bs := rfl
@[simp] theorem emitTxo_evt (bs : List Byte) : (emitTxo bs s).evt = s.evt := rfl
@[simp] theorem emitTxo_disp (bs : List Byte) : (emitTxo bs s).disp = s.disp := rfl
@[simp] theorem emitTxo_csro (bs : List Byte) : (emitTxo bs s).csro = s.csro := rfl
@[simp] theorem emitTxo_params (bs : List Byte) : (emitTxo bs s).params = s.params := rfl
@[simp] theorem emitTxo_turn (bs : List Byte) : (emitTxo bs s).turn = s.turn := rfl

@[simp] theorem emitDisp_ctrlEsc (r : DispRecord) : (emitDisp r s).ctrlEsc = s.ctrlEsc := rfl
@[simp] theorem emitDisp_ctrlRsync (r : DispRecord) : (emitDisp r s).ctrlRsync = s.ctrlRsync := rfl
@[simp] theorem emitDisp_txerr (r : DispRecord) : (emitDisp r s).txerr = s.txerr := rfl
@[simp] theorem emitDisp_badcmd (r : DispRecord) : (emitDisp r s).badcmd = s.badcmd := rfl
@[simp] theorem emitDisp_connlost (r : DispRecord) : (emitDisp r s).connlost = s.connlost := rfl
@[simp] theorem emitDisp_rxState (r : DispRecord) : (emitDisp r s).rxState = s.rxState := rfl
@[simp] theorem emitDisp_rxLesc (r : DispRecord) : (emitDisp r s).rxLesc = s.rxLesc := rfl
@[simp] theorem emitDisp_rxLrsync (r : DispRecord) : (emitDisp r s).rxLrsync = s.rxLrsync := rfl
@[simp] theorem emitDisp_rxEpend (r : DispRecord) : (emitDisp r s).rxEpend = s.rxEpend := rfl
@[simp] theorem emitDisp_rxLen (r : DispRecord) : (emitDisp r s).rxLen = s.rxLen := rfl
@[simp] theorem emitDisp_rxCnt (r : DispRecord) : (emitDisp r s).rxCnt = s.rxCnt := rfl
@[simp] theorem emitDisp_rxSum (r : DispRecord) : (emitDisp r s).rxSum = s.rxSum := rfl
@[simp] theorem emitDisp_txState (r : DispRecord) : (emitDisp r s).txState = s.txState := rfl
@[simp] theorem emitDisp_txLesc (r : DispRecord) : (emitDisp r s).txLesc = s.txLesc := rfl
@[simp] theorem emitDisp_txRem (r : DispRecord) : (emitDisp r s).txRem = s.txRem := rfl
@[simp] theorem emitDisp_txSum (r : DispRecord) : (emitDisp r s).txSum = s.txSum := rfl
@[simp] theorem emitDisp_pbuf (r : DispRecord) : (emitDisp r s).pbuf = s.pbuf := rfl
@[simp] theorem emitDisp_drec (r : DispRecord) : (emitDisp r s).drec = s.drec := rfl
@[simp] theorem emitDisp_cntFrames (r : DispRecord) : (emitDisp r s).cntFrames = s.cntFrames := rfl
@[simp] theorem emitDisp_cntInvdelim (r : DispRecord) : (emitDisp r s).cntInvdelim = s.cntInvdelim := rfl
@[simp] theorem emitDisp_cntIncomplete (r : DispRecord) : (emitDisp r s).cntIncomplete = s.cntIncomplete := rfl
@[simp] theorem emitDisp_cntCksum (r : DispRecord) : (emitDisp r s).cntCksum = s.cntCksum := rfl
@[simp] theorem emitDisp_cntMalformed (r : DispRecord) : (emitDisp r s).cntMalformed = s.cntMalformed := rfl
@[simp] theorem emitDisp_transport (r : DispRecord) : (emitDisp r s).transport = s.transport := rfl
@[simp] theorem emitDisp_host (r : DispRecord) : (emitDisp r s).host = s.host := rfl
@[simp] theorem emitDisp_txo (r : DispRecord) : (emitDisp r s).txo = s.txo := rfl
@[simp] theorem emitDisp_evt (r : DispRecord) : (emitDisp r s).evt = s.evt := rfl
@[simp] theorem emitDisp_disp (r : DispRecord) : (emitDisp r s).disp = s.disp ++ [r] := rfl
@[simp] theorem emitDisp_csro (r : DispRecord) : (emitDisp r s).csro = s.csro := rfl
@[simp] theorem emitDisp_params (r : DispRecord) : (emitDisp r s).params = s.params := rfl
@[simp] theorem emitDisp_turn (r : DispRecord) : (emitDisp r s).turn = s.turn := rfl

@[simp] theorem emitCsro_ctrlEsc (v : Half) : (emitCsro v s).ctrlEsc = s.ctrlEsc := rfl
@[simp] theorem emitCsro_ctrlRsync (v : Half) : (emitCsro v s).ctrlRsync = s.ctrlRsync := rfl
@[simp] theorem emitCsro_txerr (v : Half) : (emitCsro v s).txerr = s.txerr := rfl
@[simp] theorem emitCsro_badcmd (v : Half) : (emitCsro v s).badcmd = s.badcmd := rfl
@[simp] theorem emitCsro_connlost (v : Half) : (emitCsro v s).connlost = s.connlost := rfl
@[simp] theorem emitCsro_rxState (v : Half) : (emitCsro v s).rxState = s.rxState := rfl
@[simp] theorem emitCsro_rxLesc (v : Half) : (emitCsro v s).rxLesc = s.rxLesc := rfl
@[simp] theorem emitCsro_rxLrsync (v : Half) : (emitCsro v s).rxLrsync = s.rxLrsync := rfl
@[simp] theorem emitCsro_rxEpend (v : Half) : (emitCsro v s).rxEpend = s.rxEpend := rfl
@[simp] theorem emitCsro_rxLen (v : Half) : (emitCsro v s).rxLen = s.rxLen := rfl
@[simp] theorem emitCsro_rxCnt (v : Half) : (emitCsro v s).rxCnt = s.rxCnt := rfl
@[simp] theorem emitCsro_rxSum (v : Half) : (emitCsro v s).rxSum = s.rxSum := rfl
@[simp] theorem emitCsro_txState (v : Half) : (emitCsro v s).txState = s.txState := rfl
@[simp] theorem emitCsro_txLesc (v : Half) : (emitCsro v s).txLesc = s.txLesc := rfl
@[simp] theorem emitCsro_txRem (v : Half) : (emitCsro v s).txRem = s.txRem := rfl
@[simp] theorem emitCsro_txSum (v : Half) : (emitCsro v s).txSum = s.txSum := rfl
@[simp] theorem emitCsro_pbuf (v : Half) : (emitCsro v s).pbuf = s.pbuf := rfl
@[simp] theorem emitCsro_drec (v : Half) : (emitCsro v s).drec = s.drec := rfl
@[simp] theorem emitCsro_cntFrames (v : Half) : (emitCsro v s).cntFrames = s.cntFrames := rfl
@[simp] theorem emitCsro_cntInvdelim (v : Half) : (emitCsro v s).cntInvdelim = s.cntInvdelim := rfl
@[simp] theorem emitCsro_cntIncomplete (v : Half) : (emitCsro v s).cntIncomplete = s.cntIncomplete := rfl
@[simp] theorem emitCsro_cntCksum (v : Half) : (emitCsro v s).cntCksum = s.cntCksum := rfl
@[simp] theorem emitCsro_cntMalformed (v : Half) : (emitCsro v s).cntMalformed = s.cntMalformed := rfl
@[simp] theorem emitCsro_transport (v : Half) : (emitCsro v s).transport = s.transport := rfl
@[simp] theorem emitCsro_host (v : Half) : (emitCsro v s).host = s.host := rfl
@[simp] theorem emitCsro_txo (v : Half) : (emitCsro v s).txo = s.txo := rfl
@[simp] theorem emitCsro_evt (v : Half) : (emitCsro v s).evt = s.evt := rfl
@[simp] theorem emitCsro_disp (v : Half) : (emitCsro v s).disp = s.disp := rfl
@[simp] theorem emitCsro_csro (v : Half) : (emitCsro v s).csro = s.csro ++ [v] := rfl
@[simp] theorem emitCsro_params (v : Half) : (emitCsro v s).params = s.params := rfl
@[simp] theorem emitCsro_turn (v : Half) : (emitCsro v s).turn = s.turn := rfl

@[simp] theorem raise_ctrlEsc (e : EvtRecord) : (raise e s).ctrlEsc = s.ctrlEsc := rfl
@[simp] theorem raise_ctrlRsync (e : EvtRecord) : (raise e s).ctrlRsync = s.ctrlRsync := rfl
@[simp] theorem raise_txerr (e : EvtRecord) : (raise e s).txerr = s.txerr := rfl
@[simp] theorem raise_badcmd (e : EvtRecord) : (raise e s).badcmd = s.badcmd := rfl
@[simp] theorem raise_connlost (e : EvtRecord) : (raise e s).connlost = s.connlost := rfl
@[simp] theorem raise_rxState (e : EvtRecord) : (raise e s).rxState = s.rxState := rfl
@[simp] theorem raise_rxLesc (e : EvtRecord) : (raise e s).rxLesc = s.rxLesc := rfl
@[simp] theorem raise_rxLrsync (e : EvtRecord) : (raise e s).rxLrsync = s.rxLrsync := rfl
@[simp] theorem raise_rxEpend (e : EvtRecord) : (raise e s).rxEpend = s.rxEpend := rfl
@[simp] theorem raise_rxLen (e : EvtRecord) : (raise e s).rxLen = s.rxLen := rfl
@[simp] theorem raise_rxCnt (e : EvtRecord) : (raise e s).rxCnt = s.rxCnt := rfl
@[simp] theorem raise_rxSum (e : EvtRecord) : (raise e s).rxSum = s.rxSum := rfl
@[simp] theorem raise_txState (e : EvtRecord) : (raise e s).txState = s.txState := rfl
@[simp] theorem raise_txLesc (e : EvtRecord) : (raise e s).txLesc = s.txLesc := rfl
@[simp] theorem raise_txRem (e : EvtRecord) : (raise e s).txRem = s.txRem := rfl
@[simp] theorem raise_txSum (e : EvtRecord) : (raise e s).txSum = s.txSum := rfl
@[simp] theorem raise_pbuf (e : EvtRecord) : (raise e s).pbuf = s.pbuf := rfl
@[simp] theorem raise_drec (e : EvtRecord) : (raise e s).drec = s.drec := rfl
@[simp] theorem raise_cntFrames (e : EvtRecord) : (raise e s).cntFrames = s.cntFrames := rfl
@[simp] theorem raise_cntInvdelim (e : EvtRecord) : (raise e s).cntInvdelim = s.cntInvdelim := rfl
@[simp] theorem raise_cntIncomplete (e : EvtRecord) : (raise e s).cntIncomplete = s.cntIncomplete := rfl
@[simp] theorem raise_cntCksum (e : EvtRecord) : (raise e s).cntCksum = s.cntCksum := rfl
@[simp] theorem raise_cntMalformed (e : EvtRecord) : (raise e s).cntMalformed = s.cntMalformed := rfl
@[simp] theorem raise_transport (e : EvtRecord) : (raise e s).transport = s.transport := rfl
@[simp] theorem raise_host (e : EvtRecord) : (raise e s).host = s.host := rfl
@[simp] theorem raise_txo (e : EvtRecord) : (raise e s).txo = s.txo := rfl
@[simp] theorem raise_evt (e : EvtRecord) : (raise e s).evt = s.evt ++ [e] := rfl
@[simp] theorem raise_disp (e : EvtRecord) : (raise e s).disp = s.disp := rfl
@[simp] theorem raise_csro (e : EvtRecord) : (raise e s).csro = s.csro := rfl
@[simp] theorem raise_params (e : EvtRecord) : (raise e s).params = s.params := rfl
@[simp] theorem raise_turn (e : EvtRecord) : (raise e s).turn = s.turn := rfl

@[simp] theorem goto_ctrlEsc (x : RxState) : (goto x s).ctrlEsc = s.ctrlEsc := rfl
@[simp] theorem goto_ctrlRsync (x : RxState) : (goto x s).ctrlRsync = s.ctrlRsync := rfl
@[simp] theorem goto_txerr (x : RxState) : (goto x s).txerr = s.txerr := rfl
@[simp] theorem goto_badcmd (x : RxState) : (goto x s).badcmd = s.badcmd := rfl
@[simp] theorem goto_connlost (x : RxState) : (goto x s).connlost = s.connlost := rfl
@[simp] theorem goto_rxState (x : RxState) : (goto x s).rxState = x := rfl
@[simp] theorem goto_rxLesc (x : RxState) : (goto x s).rxLesc = s.rxLesc := rfl
@[simp] theorem goto_rxLrsync (x : RxState) : (goto x s).rxLrsync = s.rxLrsync := rfl
@[simp] theorem goto_rxEpend (x : RxState) : (goto x s).rxEpend = s.rxEpend := rfl
@[simp] theorem goto_rxLen (x : RxState) : (goto x s).rxLen = s.rxLen := rfl
@[simp] theorem goto_rxCnt (x : RxState) : (goto x s).rxCnt = s.rxCnt := rfl
@[simp] theorem goto_rxSum (x : RxState) : (goto x s).rxSum = s.rxSum := rfl
@[simp] theorem goto_txState (x : RxState) : (goto x s).txState = s.txState := rfl
@[simp] theorem goto_txLesc (x : RxState) : (goto x s).txLesc = s.txLesc := rfl
@[simp] theorem goto_txRem (x : RxState) : (goto x s).txRem = s.txRem := rfl
@[simp] theorem goto_txSum (x : RxState) : (goto x s).txSum = s.txSum := rfl
@[simp] theorem goto_pbuf (x : RxState) : (goto x s).pbuf = s.pbuf := rfl
@[simp] theorem goto_drec (x : RxState) : (goto x s).drec = s.drec := rfl
@[simp] theorem goto_cntFrames (x : RxState) : (goto x s).cntFrames = s.cntFrames := rfl
@[simp] theorem goto_cntInvdelim (x : RxState) : (goto x s).cntInvdelim = s.cntInvdelim := rfl
@[simp] theorem goto_cntIncomplete (x : RxState) : (goto x s).cntIncomplete = s.cntIncomplete := rfl
@[simp] theorem goto_cntCksum (x : RxState) : (goto x s).cntCksum = s.cntCksum := rfl
@[simp] theorem goto_cntMalformed (x : RxState) : (goto x s).cntMalformed = s.cntMalformed := rfl
@[simp] theorem goto_transport (x : RxState) : (goto x s).transport = s.transport := rfl
@[simp] theorem goto_host (x : RxState) : (goto x s).host = s.host := rfl
@[simp] theorem goto_txo (x : RxState) : (goto x s).txo = s.txo := rfl
@[simp] theorem goto_evt (x : RxState) : (goto x s).evt = s.evt := rfl
@[simp] theorem goto_disp (x : RxState) : (goto x s).disp = s.disp := rfl
@[simp] theorem goto_csro (x : RxState) : (goto x s).csro = s.csro := rfl
@[simp] theorem goto_params (x : RxState) : (goto x s).params = s.params := rfl
@[simp] theorem goto_turn (x : RxState) : (goto x s).turn = s.turn := rfl

@[simp] theorem clearReceive_ctrlEsc : (clearReceive s).ctrlEsc = s.ctrlEsc := rfl
@[simp] theorem clearReceive_ctrlRsync : (clearReceive s).ctrlRsync = s.ctrlRsync := rfl
@[simp] theorem clearReceive_txerr : (clearReceive s).txerr = s.txerr := rfl
@[simp] theorem clearReceive_badcmd : (clearReceive s).badcmd = s.badcmd := rfl
@[simp] theorem clearReceive_connlost : (clearReceive s).connlost = s.connlost := rfl
@[simp] theorem clearReceive_rxState : (clearReceive s).rxState = s.rxState := rfl
@[simp] theorem clearReceive_rxLesc : (clearReceive s).rxLesc = s.rxLesc := rfl
@[simp] theorem clearReceive_rxLrsync : (clearReceive s).rxLrsync = s.rxLrsync := rfl
@[simp] theorem clearReceive_rxEpend : (clearReceive s).rxEpend = false := rfl
@[simp] theorem clearReceive_rxLen : (clearReceive s).rxLen = 0 := rfl
@[simp] theorem clearReceive_rxCnt : (clearReceive s).rxCnt = 0 := rfl
@[simp] theorem clearReceive_rxSum : (clearReceive s).rxSum = 0 := rfl
@[simp] theorem clearReceive_txState : (clearReceive s).txState = s.txState := rfl
@[simp] theorem clearReceive_txLesc : (clearReceive s).txLesc = s.txLesc := rfl
@[simp] theorem clearReceive_txRem : (clearReceive s).txRem = s.txRem := rfl
@[simp] theorem clearReceive_txSum : (clearReceive s).txSum = s.txSum := rfl
@[simp] theorem clearReceive_pbuf : (clearReceive s).pbuf = [] := rfl
@[simp] theorem clearReceive_drec : (clearReceive s).drec = s.drec := rfl
@[simp] theorem clearReceive_cntFrames : (clearReceive s).cntFrames = s.cntFrames := rfl
@[simp] theorem clearReceive_cntInvdelim : (clearReceive s).cntInvdelim = s.cntInvdelim := rfl
@[simp] theorem clearReceive_cntIncomplete : (clearReceive s).cntIncomplete = s.cntIncomplete := rfl
@[simp] theorem clearReceive_cntCksum : (clearReceive s).cntCksum = s.cntCksum := rfl
@[simp] theorem clearReceive_cntMalformed : (clearReceive s).cntMalformed = s.cntMalformed := rfl
@[simp] theorem clearReceive_transport : (clearReceive s).transport = s.transport := rfl
@[simp] theorem clearReceive_host : (clearReceive s).host = s.host := rfl
@[simp] theorem clearReceive_txo : (clearReceive s).txo = s.txo := rfl
@[simp] theorem clearReceive_evt : (clearReceive s).evt = s.evt := rfl
@[simp] theorem clearReceive_disp : (clearReceive s).disp = s.disp := rfl
@[simp] theorem clearReceive_csro : (clearReceive s).csro = s.csro := rfl
@[simp] theorem clearReceive_params : (clearReceive s).params = s.params := rfl
@[simp] theorem clearReceive_turn : (clearReceive s).turn = s.turn := rfl

@[simp] theorem writeCtrl_ctrlEsc (d : Half) : (writeCtrl d s).ctrlEsc = d.getLsbD 0 := rfl
@[simp] theorem writeCtrl_ctrlRsync (d : Half) : (writeCtrl d s).ctrlRsync = d.getLsbD 1 := rfl
@[simp] theorem writeCtrl_txerr (d : Half) : (writeCtrl d s).txerr = s.txerr := rfl
@[simp] theorem writeCtrl_badcmd (d : Half) : (writeCtrl d s).badcmd = s.badcmd := rfl
@[simp] theorem writeCtrl_connlost (d : Half) : (writeCtrl d s).connlost = s.connlost := rfl
@[simp] theorem writeCtrl_rxState (d : Half) : (writeCtrl d s).rxState = s.rxState := rfl
@[simp] theorem writeCtrl_rxLesc (d : Half) : (writeCtrl d s).rxLesc = s.rxLesc := rfl
@[simp] theorem writeCtrl_rxLrsync (d : Half) : (writeCtrl d s).rxLrsync = s.rxLrsync := rfl
@[simp] theorem writeCtrl_rxEpend (d : Half) : (writeCtrl d s).rxEpend = s.rxEpend := rfl
@[simp] theorem writeCtrl_rxLen (d : Half) : (writeCtrl d s).rxLen = s.rxLen := rfl
@[simp] theorem writeCtrl_rxCnt (d : Half) : (writeCtrl d s).rxCnt = s.rxCnt := rfl
@[simp] theorem writeCtrl_rxSum (d : Half) : (writeCtrl d s).rxSum = s.rxSum := rfl
@[simp] theorem writeCtrl_txState (d : Half) : (writeCtrl d s).txState = s.txState := rfl
@[simp] theorem writeCtrl_txLesc (d : Half) : (writeCtrl d s).txLesc = s.txLesc := rfl
@[simp] theorem writeCtrl_txRem (d : Half) : (writeCtrl d s).txRem = s.txRem := rfl
@[simp] theorem writeCtrl_txSum (d : Half) : (writeCtrl d s).txSum = s.txSum := rfl
@[simp] theorem writeCtrl_pbuf (d : Half) : (writeCtrl d s).pbuf = s.pbuf := rfl
@[simp] theorem writeCtrl_drec (d : Half) : (writeCtrl d s).drec = s.drec := rfl
@[simp] theorem writeCtrl_cntFrames (d : Half) : (writeCtrl d s).cntFrames = s.cntFrames := rfl
@[simp] theorem writeCtrl_cntInvdelim (d : Half) : (writeCtrl d s).cntInvdelim = s.cntInvdelim := rfl
@[simp] theorem writeCtrl_cntIncomplete (d : Half) : (writeCtrl d s).cntIncomplete = s.cntIncomplete := rfl
@[simp] theorem writeCtrl_cntCksum (d : Half) : (writeCtrl d s).cntCksum = s.cntCksum := rfl
@[simp] theorem writeCtrl_cntMalformed (d : Half) : (writeCtrl d s).cntMalformed = s.cntMalformed := rfl
@[simp] theorem writeCtrl_transport (d : Half) : (writeCtrl d s).transport = s.transport := rfl
@[simp] theorem writeCtrl_host (d : Half) : (writeCtrl d s).host = s.host := rfl
@[simp] theorem writeCtrl_txo (d : Half) : (writeCtrl d s).txo = s.txo := rfl
@[simp] theorem writeCtrl_evt (d : Half) : (writeCtrl d s).evt = s.evt := rfl
@[simp] theorem writeCtrl_disp (d : Half) : (writeCtrl d s).disp = s.disp := rfl
@[simp] theorem writeCtrl_csro (d : Half) : (writeCtrl d s).csro = s.csro := rfl
@[simp] theorem writeCtrl_params (d : Half) : (writeCtrl d s).params = s.params := rfl
@[simp] theorem writeCtrl_turn (d : Half) : (writeCtrl d s).turn = s.turn := rfl

@[simp] theorem consume_transport_ctrlEsc : (consume .transport s).ctrlEsc = s.ctrlEsc := rfl
@[simp] theorem consume_transport_ctrlRsync : (consume .transport s).ctrlRsync = s.ctrlRsync := rfl
@[simp] theorem consume_transport_txerr : (consume .transport s).txerr = s.txerr := rfl
@[simp] theorem consume_transport_badcmd : (consume .transport s).badcmd = s.badcmd := rfl
@[simp] theorem consume_transport_connlost : (consume .transport s).connlost = s.connlost := rfl
@[simp] theorem consume_transport_rxState : (consume .transport s).rxState = s.rxState := rfl
@[simp] theorem consume_transport_rxLesc : (consume .transport s).rxLesc = s.rxLesc := rfl
@[simp] theorem consume_transport_rxLrsync : (consume .transport s).rxLrsync = s.rxLrsync := rfl
@[simp] theorem consume_transport_rxEpend : (consume .transport s).rxEpend = s.rxEpend := rfl
@[simp] theorem consume_transport_rxLen : (consume .transport s).rxLen = s.rxLen := rfl
@[simp] theorem consume_transport_rxCnt : (consume .transport s).rxCnt = s.rxCnt := rfl
@[simp] theorem consume_transport_rxSum : (consume .transport s).rxSum = s.rxSum := rfl
@[simp] theorem consume_transport_txState : (consume .transport s).txState = s.txState := rfl
@[simp] theorem consume_transport_txLesc : (consume .transport s).txLesc = s.txLesc := rfl
@[simp] theorem consume_transport_txRem : (consume .transport s).txRem = s.txRem := rfl
@[simp] theorem consume_transport_txSum : (consume .transport s).txSum = s.txSum := rfl
@[simp] theorem consume_transport_pbuf : (consume .transport s).pbuf = s.pbuf := rfl
@[simp] theorem consume_transport_drec : (consume .transport s).drec = s.drec := rfl
@[simp] theorem consume_transport_cntFrames : (consume .transport s).cntFrames = s.cntFrames := rfl
@[simp] theorem consume_transport_cntInvdelim : (consume .transport s).cntInvdelim = s.cntInvdelim := rfl
@[simp] theorem consume_transport_cntIncomplete : (consume .transport s).cntIncomplete = s.cntIncomplete := rfl
@[simp] theorem consume_transport_cntCksum : (consume .transport s).cntCksum = s.cntCksum := rfl
@[simp] theorem consume_transport_cntMalformed : (consume .transport s).cntMalformed = s.cntMalformed := rfl
@[simp] theorem consume_transport_transport : (consume .transport s).transport = s.transport.tail := rfl
@[simp] theorem consume_transport_host : (consume .transport s).host = s.host := rfl
@[simp] theorem consume_transport_txo : (consume .transport s).txo = s.txo := rfl
@[simp] theorem consume_transport_evt : (consume .transport s).evt = s.evt := rfl
@[simp] theorem consume_transport_disp : (consume .transport s).disp = s.disp := rfl
@[simp] theorem consume_transport_csro : (consume .transport s).csro = s.csro := rfl
@[simp] theorem consume_transport_params : (consume .transport s).params = s.params := rfl
@[simp] theorem consume_transport_turn : (consume .transport s).turn = s.turn + 1 := rfl

@[simp] theorem consume_host_ctrlEsc : (consume .host s).ctrlEsc = s.ctrlEsc := rfl
@[simp] theorem consume_host_ctrlRsync : (consume .host s).ctrlRsync = s.ctrlRsync := rfl
@[simp] theorem consume_host_txerr : (consume .host s).txerr = s.txerr := rfl
@[simp] theorem consume_host_badcmd : (consume .host s).badcmd = s.badcmd := rfl
@[simp] theorem consume_host_connlost : (consume .host s).connlost = s.connlost := rfl
@[simp] theorem consume_host_rxState : (consume .host s).rxState = s.rxState := rfl
@[simp] theorem consume_host_rxLesc : (consume .host s).rxLesc = s.rxLesc := rfl
@[simp] theorem consume_host_rxLrsync : (consume .host s).rxLrsync = s.rxLrsync := rfl
@[simp] theorem consume_host_rxEpend : (consume .host s).rxEpend = s.rxEpend := rfl
@[simp] theorem consume_host_rxLen : (consume .host s).rxLen = s.rxLen := rfl
@[simp] theorem consume_host_rxCnt : (consume .host s).rxCnt = s.rxCnt := rfl
@[simp] theorem consume_host_rxSum : (consume .host s).rxSum = s.rxSum := rfl
@[simp] theorem consume_host_txState : (consume .host s).txState = s.txState := rfl
@[simp] theorem consume_host_txLesc : (consume .host s).txLesc = s.txLesc := rfl
@[simp] theorem consume_host_txRem : (consume .host s).txRem = s.txRem := rfl
@[simp] theorem consume_host_txSum : (consume .host s).txSum = s.txSum := rfl
@[simp] theorem consume_host_pbuf : (consume .host s).pbuf = s.pbuf := rfl
@[simp] theorem consume_host_drec : (consume .host s).drec = s.drec := rfl
@[simp] theorem consume_host_cntFrames : (consume .host s).cntFrames = s.cntFrames := rfl
@[simp] theorem consume_host_cntInvdelim : (consume .host s).cntInvdelim = s.cntInvdelim := rfl
@[simp] theorem consume_host_cntIncomplete : (consume .host s).cntIncomplete = s.cntIncomplete := rfl
@[simp] theorem consume_host_cntCksum : (consume .host s).cntCksum = s.cntCksum := rfl
@[simp] theorem consume_host_cntMalformed : (consume .host s).cntMalformed = s.cntMalformed := rfl
@[simp] theorem consume_host_transport : (consume .host s).transport = s.transport := rfl
@[simp] theorem consume_host_host : (consume .host s).host = s.host.tail := rfl
@[simp] theorem consume_host_txo : (consume .host s).txo = s.txo := rfl
@[simp] theorem consume_host_evt : (consume .host s).evt = s.evt := rfl
@[simp] theorem consume_host_disp : (consume .host s).disp = s.disp := rfl
@[simp] theorem consume_host_csro : (consume .host s).csro = s.csro := rfl
@[simp] theorem consume_host_params : (consume .host s).params = s.params := rfl
@[simp] theorem consume_host_turn : (consume .host s).turn = s.turn + 1 := rfl

end Sys2Proof.Machine
end

