-- ==== Sys2Proof/Laws/Memory.lean ====
section
/-! SUPPORT. The payload buffer: reads after writes, the canonical form, and the cells that hold a list of bytes. -/

namespace Sys2Proof.Machine

@[simp] theorem Memory.read_nil (a : Nat) : Memory.read [] a = none := rfl

theorem Memory.read_cons (k : Nat) (v : Byte) (t : Memory) (a : Nat) :
    Memory.read ((k, v) :: t) a = if a = k then some v else Memory.read t a := by
  by_cases h : a = k
  · simp [Memory.read, List.lookup, h]
  · simp [Memory.read, List.lookup, h, beq_eq_false_iff_ne.2 h]

/-- The canonical form, for a list with a head. -/
theorem Memory.wf_cons (k : Nat) (v : Byte) (t : Memory) :
    Memory.wf ((k, v) :: t) = true ↔ (∀ c ∈ t, k < c.1) ∧ k < 65535 ∧ Memory.wf t = true := by
  simp only [Memory.wf, Config.pbufSize, List.pairwise_cons, List.all_cons, Bool.and_eq_true, decide_eq_true_eq]
  exact ⟨fun ⟨⟨h1, h2⟩, h3, h4⟩ => ⟨h1, of_decide_eq_true h3, h2, h4⟩,
    fun ⟨h1, h2, h3, h4⟩ => ⟨⟨h1, h3⟩, decide_eq_true h2, h4⟩⟩

theorem Memory.mem_write {a : Nat} {b : Byte} {m : Memory} {c : Host.Cell} (h : c ∈ Memory.write a b m) :
    c = (a, b) ∨ c ∈ m := by
  induction m with
  | nil => simpa [Memory.write] using h
  | cons x t ih =>
    obtain ⟨k, v⟩ := x
    simp only [Memory.write] at h
    split at h
    · simp only [List.mem_cons] at h ⊢; tauto
    · split at h
      · simp only [List.mem_cons] at h ⊢; tauto
      · simp only [List.mem_cons] at h ⊢
        rcases h with h | h
        · tauto
        · have := ih h; tauto

/-- A write inside the buffer keeps the canonical form. -/
theorem Memory.write_wf {m : Memory} {a : Nat} (b : Byte) (hm : m.wf = true) (ha : a < 65535) :
    (Memory.write a b m).wf = true := by
  induction m with
  | nil => simp [Memory.write, Memory.wf, Config.pbufSize, ha]
  | cons x t ih =>
    obtain ⟨k, v⟩ := x
    have h := (Memory.wf_cons k v t).1 hm
    simp only [Memory.write]
    split
    · rename_i hlt
      refine (Memory.wf_cons _ _ _).2 ⟨?_, ha, hm⟩
      intro c hc
      simp only [List.mem_cons] at hc
      rcases hc with rfl | hc
      · exact hlt
      · exact hlt.trans (h.1 c hc)
    · split
      · rename_i heq; subst heq
        exact (Memory.wf_cons _ _ _).2 h
      · refine (Memory.wf_cons _ _ _).2 ⟨?_, h.2.1, ih h.2.2⟩
        intro c hc
        rcases Memory.mem_write hc with rfl | hc
        · simp only; omega
        · exact h.1 c hc

/-- A cell whose address is below every listed one is unwritten. -/
theorem Memory.read_eq_none {m : Memory} {a : Nat} (h : ∀ c ∈ m, a < c.1) : Memory.read m a = none := by
  induction m with
  | nil => rfl
  | cons x t ih =>
    obtain ⟨k, v⟩ := x
    have hk : a < k := h (k, v) (by simp)
    rw [Memory.read_cons, if_neg (by omega)]
    exact ih fun c hc => h c (by simp [hc])

theorem Memory.read_write_same (m : Memory) (a : Nat) (b : Byte) : Memory.read (Memory.write a b m) a = some b := by
  induction m with
  | nil => simp [Memory.write, Memory.read_cons]
  | cons x t ih =>
    obtain ⟨k, v⟩ := x
    simp only [Memory.write]
    split
    · simp [Memory.read_cons]
    · split
      · simp [Memory.read_cons]
      · rename_i hne; rw [Memory.read_cons, if_neg hne, ih]

theorem Memory.read_write_other (m : Memory) {a k : Nat} (b : Byte) (h : k ≠ a) :
    Memory.read (Memory.write a b m) k = Memory.read m k := by
  induction m with
  | nil => simp [Memory.write, Memory.read_cons, h]
  | cons x t ih =>
    obtain ⟨j, v⟩ := x
    simp only [Memory.write]
    split
    · rw [Memory.read_cons, if_neg h]
    · split
      · rename_i heq; subst heq
        rw [Memory.read_cons, if_neg h, Memory.read_cons, if_neg h]
      · rw [Memory.read_cons, Memory.read_cons, ih]

@[simp] theorem Memory.ofBytes_length (a : Nat) (d : List Byte) : (Memory.ofBytes a d).length = d.length := by
  induction d generalizing a with
  | nil => rfl
  | cons b t ih => simp [Memory.ofBytes, ih]

@[simp] theorem Memory.ofBytes_bytes (a : Nat) (d : List Byte) : (Memory.ofBytes a d).map Prod.snd = d := by
  induction d generalizing a with
  | nil => rfl
  | cons b t ih => simp [Memory.ofBytes, ih]

theorem Memory.mem_ofBytes {a : Nat} {d : List Byte} {c : Host.Cell} (h : c ∈ Memory.ofBytes a d) :
    a ≤ c.1 ∧ c.1 < a + d.length := by
  induction d generalizing a with
  | nil => simp [Memory.ofBytes] at h
  | cons b t ih =>
    simp only [Memory.ofBytes, List.mem_cons] at h
    rcases h with rfl | h
    · simp
    · have := ih h; simp only [List.length_cons]; omega

/-- The cells of a list of bytes that fits the buffer are in canonical form. -/
theorem Memory.ofBytes_wf {a : Nat} {d : List Byte} (h : a + d.length ≤ 65535) : (Memory.ofBytes a d).wf = true := by
  induction d generalizing a with
  | nil => rfl
  | cons b t ih =>
    simp only [List.length_cons] at h
    refine (Memory.wf_cons _ _ _).2 ⟨?_, by omega, ih (by omega)⟩
    intro c hc
    have := Memory.mem_ofBytes hc
    omega

/-- Writing the next cell appends the byte. -/
theorem Memory.write_ofBytes (a : Nat) (d : List Byte) (b : Byte) :
    Memory.write (a + d.length) b (Memory.ofBytes a d) = Memory.ofBytes a (d ++ [b]) := by
  induction d generalizing a with
  | nil => simp [Memory.ofBytes, Memory.write]
  | cons x t ih =>
    simp only [Memory.ofBytes, List.length_cons, List.cons_append, Memory.write]
    rw [if_neg (by omega), if_neg (by omega)]
    rw [show a + (t.length + 1) = (a + 1) + t.length by omega, ih]

theorem Memory.readRange_of_lt {c : Host.Cell} {m : Memory} (n : Nat) {a : Nat} (h : c.1 < a) :
    Memory.readRange (c :: m) a n = Memory.readRange m a n := by
  induction n generalizing a with
  | zero => rfl
  | succ n ih =>
    obtain ⟨k, v⟩ := c
    simp only [Memory.readRange]
    rw [Memory.read_cons, if_neg (by simp only at h; omega), ih (by omega)]

/-- Reading the cells of a list of bytes gives the list. -/
theorem Memory.readRange_ofBytes (a : Nat) (d : List Byte) :
    Memory.readRange (Memory.ofBytes a d) a d.length = some d := by
  induction d generalizing a with
  | nil => rfl
  | cons b t ih =>
    simp only [Memory.ofBytes, List.length_cons, Memory.readRange]
    rw [Memory.read_cons, if_pos rfl, Memory.readRange_of_lt _ (by simp), ih]

/-- What a read of a range gives has the range's length. -/
theorem Memory.readRange_length {m : Memory} {a n : Nat} {d : List Byte} (h : Memory.readRange m a n = some d) :
    d.length = n := by
  induction n generalizing a d with
  | zero => simp only [Memory.readRange, Option.some.injEq] at h; subst h; rfl
  | succ n ih =>
    simp only [Memory.readRange] at h
    split at h
    · simp at h
    · split at h
      · simp at h
      · rename_i h'
        simp only [Option.some.injEq] at h
        subst h
        simp [ih h']

end Sys2Proof.Machine
end

