-- ==== Sys2Proof/Laws/Ops.lean ====
section
/-! SUPPORT. For each shared operation, what it can do: the receive side by state and byte, the dispatcher by frame data,
the step by port, and the instructions that a port word decodes to. -/

namespace Sys2Proof.Machine

/-! ### The dispatcher -/

theorem lookup_eq_some {α β : Type} [BEq α] [LawfulBEq α] {l : List (α × β)} {a : α} {b : β}
    (h : l.lookup a = some b) : (a, b) ∈ l := by
  induction l with
  | nil => simp at h
  | cons x t ih =>
    obtain ⟨k, v⟩ := x
    by_cases hk : a = k
    · subst hk; simp at h; simp [h]
    · rw [List.lookup_cons, beq_eq_false_iff_ne.2 hk] at h
      exact List.mem_cons_of_mem _ (ih h)

theorem frameTypeArms_dispatch : ∀ x ∈ frameTypeArms, x.2 = dispatchFrame x.1 := by
  intro x hx
  simp only [frameTypeArms, List.mem_cons, List.not_mem_nil, or_false] at hx
  rcases hx with h | h | h | h | h | h | h | h | h | h | h | h | h | h | h | h | h | h | h | h | h | h <;>
    (subst h; rfl)

/-- Every row of the multiplexer runs `VALIDATE` with its own byte. -/
theorem muxFrameType_eq (ft : Byte) (s : State) : muxFrameType ft s = dispatchFrame ft s := by
  unfold muxFrameType
  split
  · rename_i arm h
    exact congrFun (frameTypeArms_dispatch _ (lookup_eq_some h)) s
  · rfl

/-- A frame-type row runs `VALIDATE` with its byte. -/
theorem exec_frameType {i : Instr} {ft : Byte} (h : frameTypeOf i = some ft) (s : State) :
    exec i s = dispatchFrame ft s := by
  cases i <;> simp only [frameTypeOf, Option.some.injEq, reduceCtorEq] at h <;> subst h <;> rfl

/-- What `VALIDATE` does with a type byte: nothing but report, or offer. -/
theorem dispatchFrame_next {ft : Byte} {s t : State} (h : dispatchFrame ft s = .next t) :
    ∃ d, frameData s = some d ∧
      ((d = [] ∧ t = rejectFrame false 0 s) ∨ (d ≠ [] ∧ tooShort s.params ft d = true ∧ t = rejectFrame true ft s) ∨
       (d ≠ [] ∧ tooShort s.params ft d = false ∧ t = offerFrame ft d s)) := by
  unfold dispatchFrame at h
  cases hd : frameData s with
  | none => simp [hd] at h
  | some d =>
    refine ⟨d, rfl, ?_⟩
    cases d with
    | nil => exact .inl ⟨rfl, by simpa [hd] using h.symm⟩
    | cons b r =>
      simp only [hd] at h
      split at h
      · rename_i hs; exact .inr (.inl ⟨by simp, hs, by simpa using h.symm⟩)
      · rename_i hs; exact .inr (.inr ⟨by simp, by simpa using hs, by simpa using h.symm⟩)

/-- On frame data that can be read, `VALIDATE` completes. -/
theorem dispatchFrame_cons {ft b : Byte} {t : List Byte} {s : State} (h : frameData s = some (b :: t)) :
    dispatchFrame ft s =
      .next (if tooShort s.params ft (b :: t) = true then rejectFrame true ft s else offerFrame ft (b :: t) s) := by
  unfold dispatchFrame
  rw [h]
  simp only
  split <;> simp_all

theorem validate_nil {s : State} (h : frameData s = some []) : validate s = .next (rejectFrame false 0 s) := by
  unfold validate; rw [h]

theorem validate_cons {ft : Byte} {t : List Byte} {s : State} (h : frameData s = some (ft :: t)) :
    validate s = dispatchFrame ft s := by
  unfold validate; rw [h]; exact muxFrameType_eq ft s

/-- What `VALIDATE` can do. -/
theorem validate_next {s t : State} (h : validate s = .next t) :
    ∃ d, frameData s = some d ∧
      ((d = [] ∧ t = rejectFrame false 0 s) ∨
       (∃ ft r, d = ft :: r ∧ tooShort s.params ft d = true ∧ t = rejectFrame true ft s) ∨
       (∃ ft r, d = ft :: r ∧ tooShort s.params ft d = false ∧ t = offerFrame ft d s)) := by
  cases hd : frameData s with
  | none => simp [validate, hd] at h
  | some d =>
    cases d with
    | nil =>
      rw [validate_nil hd] at h
      exact ⟨[], rfl, .inl ⟨rfl, by simpa using h.symm⟩⟩
    | cons ft r =>
      rw [validate_cons hd, dispatchFrame_cons hd] at h
      refine ⟨ft :: r, rfl, .inr ?_⟩
      by_cases hs : tooShort s.params ft (ft :: r) = true
      · rw [if_pos hs] at h; exact .inl ⟨ft, r, rfl, hs, by simpa using h.symm⟩
      · rw [if_neg hs] at h; exact .inr ⟨ft, r, rfl, by simpa using hs, by simpa using h.symm⟩

/-- What `DISPATCH_ACK` can do. -/
theorem execDispatchAck_next {c : Bool} {s t : State} (h : execDispatchAck c s = .next t) :
    (s.rxState ≠ .dispatch ∧ t = setBadcmd s) ∨
    (s.rxState = .dispatch ∧ ∃ d, drecData s = some d ∧
      t = goto .seek (emitDisp (.deliver (deliverRec s.drec d) (route s.params.dualKinds s.drec.kind c).1
        (route s.params.dualKinds s.drec.kind c).2) s)) := by
  unfold execDispatchAck at h
  split at h
  · rename_i hd
    split at h
    · simp at h
    · rename_i d hdd
      exact .inr ⟨hd, d, hdd, by simpa using h.symm⟩
  · rename_i hd; exact .inl ⟨hd, by simpa using h.symm⟩

/-! ### The receive side -/

/-- The body states as receive states. -/
def bodyRx : BodyState → RxState
  | .lenHi => .lenHi
  | .lenLo => .lenLo
  | .payload => .payload
  | .checksum => .checksum

/-- What a byte does in a body state (R103, R104). -/
def bodyByte (b : Byte) (x : BodyState) (s : State) : Outcome :=
  if s.rxLesc = true ∧ s.rxLrsync = true ∧ b = 0x7E then .next (resync x s)
  else if s.rxLesc = true ∧ s.rxEpend = false ∧ b = 0x7D then .next { s with rxEpend := true }
  else acceptValue x (valueByte b s) s

/-- What a byte does in `SEEK` (R101). -/
def seekByte (b : Byte) (s : State) : Outcome :=
  if b = 0x7E then .next (openFrame s) else .next (raiseInvalidDelimiter b s)

/-- The receive side depends on what it does in `SEEK` and in a body state, not on how that is written. -/
theorem receive_congr {f f' : State → Outcome} {g g' : BodyState → State → Outcome} (s : State) (hf : f s = f' s)
    (hg : ∀ x, g x s = g' x s) : receive f g s = receive f' g' s := by
  unfold receive
  split <;> first | rfl | exact hf | exact hg _

/-- A byte is discarded, sought, held or taken by the body, by the receive state alone. -/
theorem execRxByte_eq (b : Byte) (s : State) : execRxByte b s = receive (seekByte b) (bodyByte b) s := by
  unfold execRxByte Config.delim Config.esc Config.xon Config.xoff
  by_cases h1 : b = 0x7E
  · subst h1
    rw [if_pos rfl]
    refine receive_congr s (if_pos rfl).symm fun x => ?_
    simp [bodyDelim, bodyByte, bodyValue, Config.delim]
  rw [if_neg h1]
  have hs : ∀ s, skipByte b s = seekByte b s := fun s => by rw [seekByte, if_neg h1]; rfl
  by_cases h2 : b = 0x7D
  · subst h2
    rw [if_pos rfl]
    refine receive_congr s (hs s) fun x => ?_
    simp [bodyEscb, bodyByte, bodyValue, Config.esc]
  rw [if_neg h2]
  have hb : ∀ x s, bodyValue b x s = bodyByte b x s := fun x s => by
    rw [bodyByte, if_neg (fun h => h1 h.2.2), if_neg (fun h => h2 h.2.2)]; rfl
  split
  · rename_i h; subst h; exact receive_congr s (hs s) fun x => hb x s
  · split
    · rename_i h; subst h; exact receive_congr s (hs s) fun x => hb x s
    · exact receive_congr s (hs s) fun x => hb x s

/-- An instruction that delivers a byte does what `RX_BYTE` of that byte does. -/
theorem exec_wireByte {i : Instr} {b : Byte} (hi : i.wf = true) (h : wireByteOf i = some b) (s : State) :
    exec i s = execRxByte b s := by
  cases i <;> simp only [wireByteOf, Option.some.injEq, reduceCtorEq] at h
  case rxByte => subst h; rfl
  case delim => subst h; rfl
  case escb => subst h; rfl
  case xon => subst h; rfl
  case xoff => subst h; rfl
  case other c =>
    subst h
    have hc : ¬c ∈ Config.escSet := by
      simpa [Instr.wf, wfOtherByte] using hi
    simp only [Config.escSet, List.mem_cons, List.not_mem_nil, or_false, not_or] at hc
    exact ((if_neg hc.1).trans ((if_neg hc.2.1).trans ((if_neg hc.2.2.1).trans (if_neg hc.2.2.2)))).symm

theorem receive_body {f : State → Outcome} {g : BodyState → State → Outcome} {s : State} {x : BodyState}
    (h : s.rxState = bodyRx x) : receive f g s = g x s := by
  cases x <;> simp [receive, bodyRx] at * <;> rw [h]

theorem receive_seek {f : State → Outcome} {g : BodyState → State → Outcome} {s : State} (h : s.rxState = .seek) :
    receive f g s = f s := by
  simp [receive, h]

theorem receive_discard {f : State → Outcome} {g : BodyState → State → Outcome} {s : State}
    (h : s.rxState = .idle ∨ s.rxState = .stopped) : receive f g s = .next s := by
  rcases h with h | h <;> simp [receive, h]

theorem receive_held {f : State → Outcome} {g : BodyState → State → Outcome} {s : State} (h : s.rxState = .dispatch) :
    receive f g s = .fault .transportHeld := by
  simp [receive, h]

/-- The four cases of the receive side. -/
theorem receive_cases (s : State) :
    (s.rxState = .idle ∨ s.rxState = .stopped) ∨ s.rxState = .seek ∨ s.rxState = .dispatch ∨
      ∃ x, s.rxState = bodyRx x := by
  cases h : s.rxState
  case lenHi => exact .inr (.inr (.inr ⟨.lenHi, rfl⟩))
  case lenLo => exact .inr (.inr (.inr ⟨.lenLo, rfl⟩))
  case payload => exact .inr (.inr (.inr ⟨.payload, rfl⟩))
  case checksum => exact .inr (.inr (.inr ⟨.checksum, rfl⟩))
  all_goals simp

/-- What an accept rule can do (R105 to R108). -/
theorem acceptValue_next {x : BodyState} {v : Byte} {s t : State} (h : acceptValue x v s = .next t) :
    (x = .lenHi ∧ t = acceptLenHi v { s with rxEpend := false }) ∨
    (x = .lenLo ∧ t = acceptLenLo v { s with rxEpend := false }) ∨
    (x = .payload ∧ t = acceptPayload v { s with rxEpend := false }) ∨
    (x = .checksum ∧ s.rxSum + v = 0xFF ∧ validate { s with rxEpend := false } = .next t) ∨
    (x = .checksum ∧ s.rxSum + v ≠ 0xFF ∧ t = goto .seek (raiseChecksumError v { s with rxEpend := false })) := by
  cases x
  · exact .inl ⟨rfl, by simpa [acceptValue] using h.symm⟩
  · exact .inr (.inl ⟨rfl, by simpa [acceptValue] using h.symm⟩)
  · exact .inr (.inr (.inl ⟨rfl, by simpa [acceptValue] using h.symm⟩))
  · simp only [acceptValue, acceptChecksum] at h
    split at h
    · rename_i hs; exact .inr (.inr (.inr (.inl ⟨rfl, hs, h⟩)))
    · rename_i hs; exact .inr (.inr (.inr (.inr ⟨rfl, hs, by simpa using h.symm⟩)))

/-- What a received byte can do (R100 to R104). -/
theorem execRxByte_next {b : Byte} {s t : State} (h : execRxByte b s = .next t) :
    ((s.rxState = .idle ∨ s.rxState = .stopped) ∧ t = s) ∨
    (s.rxState = .seek ∧ b = 0x7E ∧ t = openFrame s) ∨
    (s.rxState = .seek ∧ b ≠ 0x7E ∧ t = raiseInvalidDelimiter b s) ∨
    (∃ x, s.rxState = bodyRx x ∧ s.rxLesc = true ∧ s.rxLrsync = true ∧ b = 0x7E ∧ t = resync x s) ∨
    (∃ x, s.rxState = bodyRx x ∧ s.rxLesc = true ∧ s.rxEpend = false ∧ b = 0x7D ∧ t = { s with rxEpend := true }) ∨
    (∃ x, s.rxState = bodyRx x ∧ takesValue b s ∧ acceptValue x (valueByte b s) s = .next t) := by
  rw [execRxByte_eq] at h
  rcases receive_cases s with hs | hs | hs | ⟨x, hs⟩
  · rw [receive_discard hs] at h; exact .inl ⟨hs, by simpa using h.symm⟩
  · rw [receive_seek hs, seekByte] at h
    split at h
    · rename_i hb; exact .inr (.inl ⟨hs, hb, by simpa using h.symm⟩)
    · rename_i hb; exact .inr (.inr (.inl ⟨hs, hb, by simpa using h.symm⟩))
  · rw [receive_held hs] at h; simp at h
  · rw [receive_body hs, bodyByte] at h
    split at h
    · rename_i hb; exact .inr (.inr (.inr (.inl ⟨x, hs, hb.1, hb.2.1, hb.2.2, by simpa using h.symm⟩)))
    · rename_i hb
      split at h
      · rename_i hc; exact .inr (.inr (.inr (.inr (.inl ⟨x, hs, hc.1, hc.2.1, hc.2.2, by simpa using h.symm⟩))))
      · rename_i hc; exact .inr (.inr (.inr (.inr (.inr ⟨x, hs, ⟨hb, hc⟩, h⟩))))

/-- What `RX_CLOSE` can do (R109). -/
theorem execRxClose_next {s t : State} (h : execRxClose s = .next t) :
    (s.rxState = .stopped ∧ t = s) ∨ ((s.rxState = .idle ∨ s.rxState = .seek) ∧ t = stopReceive s) ∨
    (∃ x, s.rxState = bodyRx x ∧ t = closeFrame x s) := by
  unfold execRxClose at h
  split at h
  case h_1 hs => exact .inl ⟨hs, by simpa using h.symm⟩
  case h_2 => simp at h
  case h_3 hs => exact .inr (.inl ⟨.inl hs, by simpa using h.symm⟩)
  case h_4 hs => exact .inr (.inl ⟨.inr hs, by simpa using h.symm⟩)
  case h_5 hs => exact .inr (.inr ⟨.lenHi, hs, by simpa using h.symm⟩)
  case h_6 hs => exact .inr (.inr ⟨.lenLo, hs, by simpa using h.symm⟩)
  case h_7 hs => exact .inr (.inr ⟨.payload, hs, by simpa using h.symm⟩)
  case h_8 hs => exact .inr (.inr ⟨.checksum, hs, by simpa using h.symm⟩)

/-! ### The other events -/

/-- What `TX_START` does. -/
theorem execTxStart_eq (len : Half) (s : State) :
    execTxStart len s = .next (if s.txState = .tPayload then setTxerr s else openTxFrame len s) := by
  unfold execTxStart; split <;> simp_all

/-- What `TX_DATA` does. -/
theorem execTxData_eq (b : Byte) (s : State) :
    execTxData b s = .next (if s.txState = .tIdle then setTxerr s else sendTxByte b s) := by
  unfold execTxData; split <;> simp_all

/-- What `CSR_READ` does. -/
theorem execCsrRead_eq (a : Byte) (s : State) :
    execCsrRead a s = .next (match csrValue a s with | some v => emitCsro v s | none => setBadcmd (emitCsro 0 s)) := by
  unfold execCsrRead; split <;> simp_all

/-- What `START` does. -/
theorem execStart_eq (s : State) :
    execStart s =
      .next (if s.rxState = .idle ∨ s.rxState = .stopped then goto .seek (clearReceive s) else s) := by
  unfold execStart; split <;> simp_all

/-- What `CSR_WRITE` does. -/
theorem execCsrWrite_eq (a : Byte) (d : Half) (s : State) :
    execCsrWrite a d s =
      .next (if a = 0x00 then writeCtrl d s else if a = 0x01 then clearSticky d s else setBadcmd s) := by
  unfold execCsrWrite; split_ifs <;> rfl

/-! ### The step -/

/-- The instructions a port word decodes to: the port events, well formed. -/
def isEvent : Instr → Bool
  | .nop | .rxByte _ | .rxClose | .dispatchAck _ | .txStart _ | .txData _ | .csrWriteCtrl _ | .csrWriteStatus _
  | .csrWrite _ _ | .csrRead _ | .start | .softReset | .reservedAB _ | .reservedCF _ => true
  | .delim | .escb | .xon | .xoff | .other _
  | .ftTx64 | .ftTx16 | .ftAtCommand | .ftAtCommandQueue | .ftTransmitRequest | .ftExplicitAddressingCommand
  | .ftRemoteAtCommandRequest | .ftUserDataRelay | .ftRx64 | .ftRx16 | .ftRxIo64 | .ftRxIo16 | .ftAtCommandResponse
  | .ftTxStatus | .ftModemStatus | .ftTransmitStatus | .ftReceivePacket | .ftExplicitRxIndicator
  | .ftIoDataSampleRxIndicator | .ftRemoteAtCommandResponse | .ftUserDataRelayOutput | .ftGeneric | .ftUnknown _ => false

theorem eventRows_build (w : Word) : ∀ r ∈ eventRows, isEvent (r.build w) = true ∧
    (r.port ≠ some .transport → (∀ b, r.build w ≠ .rxByte b) ∧ r.build w ≠ .rxClose) := by
  simp [eventRows, isEvent]

/-- A word decodes to a port event, and on the HOST port to none of the two TRANSPORT events. -/
theorem decodeEvent_ok {p : Port} {w : Word} {i : Instr} (h : decodeEvent p w = .ok i) :
    isEvent i = true ∧ (p = .host → (∀ b, i ≠ .rxByte b) ∧ i ≠ .rxClose) := by
  unfold decodeEvent at h
  split at h
  · simp at h
  · rename_i r hr
    have hm := eventRows_build w r (List.mem_of_find?_eq_some hr)
    split at h
    · rename_i hp
      simp only [Except.ok.injEq] at h
      subst h
      refine ⟨hm.1, fun hh => hm.2 fun ht => ?_⟩
      rw [ht, hh] at hp
      simp at hp
    · simp at h

/-- The port that is served has an enabled head. -/
theorem selectPort_enabled {s : State} {p : Port} (h : selectPort s = some p) : portEnabled p s = true := by
  unfold selectPort at h
  split at h
  · simp at h
  · simp only [Option.some.injEq] at h; subst h; assumption
  · simp only [Option.some.injEq] at h; subst h; assumption
  · split at h <;> (simp only [Option.some.injEq] at h; subst h; assumption)

/-- What a step can do: end the run, or run the head of an enabled port. -/
theorem step_cases (s : State) :
    (selectPort s = none ∧ step s = .fault (stalled s)) ∨
    (∃ p w rest, selectPort s = some p ∧ portQueue p s = w :: rest ∧
      step s = (match decodeEvent p w with
        | .ok i => exec i (consume p s)
        | .error _ => reservedWord (consume p s))) := by
  unfold step
  cases hp : selectPort s with
  | none => exact .inl ⟨rfl, rfl⟩
  | some p =>
    cases hq : portQueue p s with
    | nil => exact absurd (selectPort_enabled hp) (by simp [portEnabled, hq])
    | cons w rest => exact .inr ⟨p, w, rest, rfl, hq, by cases hd : decodeEvent p w <;> simp only [hq, hd]⟩

end Sys2Proof.Machine
end

