-- ==== Sys2Proof/Laws/Effect.lean ====
section
/-! SUPPORT. Everything an instruction can do, said once: the list of the state changes of the block, each with its guard,
and the lemma that `exec` makes one of them. -/

namespace Sys2Proof.Machine

/-- The state changes of the block. `Effect i s t`: the instruction `i` may take `s` to `t`. -/
inductive Effect (i : Instr) (s : State) : State → Prop
  | none : Effect i s s
  | opened (h : s.rxState = .seek) (hi : wireByteOf i = some 0x7E) : Effect i s (openFrame s)
  | skipped (b : Byte) (h : s.rxState = .seek) : Effect i s (raiseInvalidDelimiter b s)
  | resynced (x : BodyState) (h : s.rxState = bodyRx x) (he : s.rxLesc = true) (hr : s.rxLrsync = true)
      (hi : wireByteOf i = some 0x7E) : Effect i s (resync x s)
  | escaped (x : BodyState) (h : s.rxState = bodyRx x) (he : s.rxLesc = true) (hp : s.rxEpend = false) :
      Effect i s { s with rxEpend := true }
  | lenHi (v : Byte) (h : s.rxState = .lenHi) : Effect i s (acceptLenHi v { s with rxEpend := false })
  | lenLo (v : Byte) (h : s.rxState = .lenLo) : Effect i s (acceptLenLo v { s with rxEpend := false })
  | stored (v : Byte) (h : s.rxState = .payload) : Effect i s (acceptPayload v { s with rxEpend := false })
  | failed (v : Byte) (h : s.rxState = .checksum) (hv : s.rxSum + v ≠ 0xFF) :
      Effect i s (goto .seek (raiseChecksumError v { s with rxEpend := false }))
  | passedEmpty (h : s.rxState = .checksum) (hd : frameData s = some []) :
      Effect i s (rejectFrame false 0 { s with rxEpend := false })
  | passedShort (ft : Byte) (r : List Byte) (h : s.rxState = .checksum) (hd : frameData s = some (ft :: r))
      (hs : tooShort s.params ft (ft :: r) = true) : Effect i s (rejectFrame true ft { s with rxEpend := false })
  | passed (ft : Byte) (r : List Byte) (h : s.rxState = .checksum) (hd : frameData s = some (ft :: r))
      (hs : tooShort s.params ft (ft :: r) = false) : Effect i s (offerFrame ft (ft :: r) { s with rxEpend := false })
  | typeEmpty (ft : Byte) (hf : frameTypeOf i = some ft) (hd : frameData s = some []) : Effect i s (rejectFrame false 0 s)
  | typeShort (ft : Byte) (d : List Byte) (hf : frameTypeOf i = some ft) (hd : frameData s = some d) (hne : d ≠ [])
      (hs : tooShort s.params ft d = true) : Effect i s (rejectFrame true ft s)
  | typeOffered (ft : Byte) (d : List Byte) (hf : frameTypeOf i = some ft) (hd : frameData s = some d) (hne : d ≠ [])
      (hs : tooShort s.params ft d = false) : Effect i s (offerFrame ft d s)
  | stopped (hi : i = .rxClose) (h : s.rxState = .idle ∨ s.rxState = .seek) : Effect i s (stopReceive s)
  | closed (x : BodyState) (hi : i = .rxClose) (h : s.rxState = bodyRx x) : Effect i s (closeFrame x s)
  | badcmd : Effect i s (setBadcmd s)
  | acked (c : Bool) (d : List Byte) (hi : i = .dispatchAck c) (h : s.rxState = .dispatch) (hd : drecData s = some d) :
      Effect i s (goto .seek (emitDisp (.deliver (deliverRec s.drec d) (route s.params.dualKinds s.drec.kind c).1
        (route s.params.dualKinds s.drec.kind c).2) s))
  | txerr : Effect i s (setTxerr s)
  | txOpened (l : Half) (hi : i = .txStart l) (h : s.txState = .tIdle) : Effect i s (openTxFrame l s)
  | txSent (b : Byte) (hi : i = .txData b) (h : s.txState = .tPayload) : Effect i s (sendTxByte b s)
  | ctrl (d : Half) : Effect i s (writeCtrl d s)
  | sticky (d : Half) : Effect i s (clearSticky d s)
  | csro (v : Half) : Effect i s (emitCsro v s)
  | csroBad : Effect i s (setBadcmd (emitCsro 0 s))
  | started (hi : i = .start) (h : s.rxState = .idle ∨ s.rxState = .stopped) : Effect i s (goto .seek (clearReceive s))
  | reset (hi : i = .softReset) : Effect i s (resetBlock s)

/-- What a value byte in a body state does. -/
theorem effect_value {i : Instr} {x : BodyState} {v : Byte} {s t : State} (h : s.rxState = bodyRx x)
    (ha : acceptValue x v s = .next t) : Effect i s t := by
  rcases acceptValue_next ha with ⟨rfl, rfl⟩ | ⟨rfl, rfl⟩ | ⟨rfl, rfl⟩ | ⟨rfl, _, hv⟩ | ⟨rfl, hv, rfl⟩
  · exact .lenHi v h
  · exact .lenLo v h
  · exact .stored v h
  · obtain ⟨d, hd, ⟨rfl, rfl⟩ | ⟨ft, r, rfl, hs, rfl⟩ | ⟨ft, r, rfl, hs, rfl⟩⟩ := validate_next hv
    · exact .passedEmpty h hd
    · exact .passedShort ft r h hd hs
    · exact .passed ft r h hd hs
  · exact .failed v h hv

/-- What a byte handed to the receive side does, for any rule of its class. -/
theorem effect_receive {i : Instr} {f : State → Outcome} {g : BodyState → State → Outcome} {s t : State}
    (hf : s.rxState = .seek → f s = .next t → Effect i s t)
    (hg : ∀ x, s.rxState = bodyRx x → g x s = .next t → Effect i s t) (h : receive f g s = .next t) : Effect i s t := by
  rcases receive_cases s with hs | hs | hs | ⟨x, hs⟩
  · rw [receive_discard hs] at h; cases h; exact .none
  · rw [receive_seek hs] at h; exact hf hs h
  · rw [receive_held hs] at h; simp at h
  · rw [receive_body hs] at h; exact hg x hs h

theorem effect_skip {i : Instr} {b : Byte} {s t : State} (hs : s.rxState = .seek) (h : skipByte b s = .next t) :
    Effect i s t := by
  cases h; exact .skipped b hs

theorem effect_delim {i : Instr} {s t : State} (hi : wireByteOf i = some 0x7E) (h : execDelim s = .next t) :
    Effect i s t := by
  refine effect_receive (fun hs h => ?_) (fun x hs h => ?_) h
  · cases h; exact .opened hs hi
  · unfold bodyDelim at h
    split at h
    · rename_i hc; cases h; exact .resynced x hs hc.1 hc.2 hi
    · exact effect_value hs h

theorem effect_escb {i : Instr} {s t : State} (h : execEscb s = .next t) : Effect i s t := by
  refine effect_receive (fun hs h => effect_skip hs h) (fun x hs h => ?_) h
  unfold bodyEscb at h
  split at h
  · rename_i hc; cases h; exact .escaped x hs hc.1 hc.2
  · exact effect_value hs h

theorem effect_plain {i : Instr} {b : Byte} {s t : State} (h : receive (skipByte b) (bodyValue b) s = .next t) :
    Effect i s t := by
  refine effect_receive (fun hs h => effect_skip hs h) (fun x hs h => ?_) h
  unfold bodyValue at h
  exact effect_value hs h

theorem effect_rxByte {b : Byte} {s t : State} (h : execRxByte b s = .next t) : Effect (.rxByte b) s t := by
  unfold execRxByte at h
  by_cases h1 : b = Config.delim
  · rw [if_pos h1] at h; exact effect_delim (congrArg some h1) h
  rw [if_neg h1] at h
  by_cases h2 : b = Config.esc
  · rw [if_pos h2] at h; exact effect_escb h
  rw [if_neg h2] at h
  split at h
  · exact effect_plain h
  · split at h <;> exact effect_plain h

theorem effect_type {i : Instr} {ft : Byte} {s t : State} (hi : frameTypeOf i = some ft)
    (h : dispatchFrame ft s = .next t) : Effect i s t := by
  obtain ⟨d, hd, ⟨rfl, rfl⟩ | ⟨hne, hs, rfl⟩ | ⟨hne, hs, rfl⟩⟩ := dispatchFrame_next h
  · exact .typeEmpty ft hi hd
  · exact .typeShort ft d hi hd hne hs
  · exact .typeOffered ft d hi hd hne hs

/-- An instruction that gives a next state makes one of the listed changes. -/
theorem exec_effect {i : Instr} {s t : State} (h : exec i s = .next t) : Effect i s t := by
  cases i
  case nop => cases h; exact .none
  case rxByte b => exact effect_rxByte h
  case rxClose =>
    rcases execRxClose_next h with ⟨_, rfl⟩ | ⟨hs, rfl⟩ | ⟨x, hs, rfl⟩
    · exact .none
    · exact .stopped rfl hs
    · exact .closed x rfl hs
  case dispatchAck c =>
    rcases execDispatchAck_next h with ⟨_, rfl⟩ | ⟨hs, d, hd, rfl⟩
    · exact .badcmd
    · exact .acked c d rfl hs hd
  case txStart l =>
    have h := (execTxStart_eq l s).symm.trans h
    cases h
    split
    · exact .txerr
    · rename_i hs; exact .txOpened l rfl (by cases ht : s.txState <;> simp_all)
  case txData b =>
    have h := (execTxData_eq b s).symm.trans h
    cases h
    split
    · exact .txerr
    · rename_i hs; exact .txSent b rfl (by cases ht : s.txState <;> simp_all)
  case csrWriteCtrl d => cases h; exact .ctrl d
  case csrWriteStatus d => cases h; exact .sticky d
  case csrWrite a d =>
    have h := (execCsrWrite_eq a d s).symm.trans h
    cases h
    split
    · exact .ctrl d
    · split
      · exact .sticky d
      · exact .badcmd
  case csrRead a =>
    have h := (execCsrRead_eq a s).symm.trans h
    cases h
    split
    · exact .csro _
    · exact .csroBad
  case start =>
    have h := (execStart_eq s).symm.trans h
    cases h
    split
    · rename_i hs; exact .started rfl hs
    · exact .none
  case softReset => cases h; exact .reset rfl
  case reservedAB => cases h; exact .badcmd
  case reservedCF => cases h; exact .badcmd
  case delim => exact effect_delim rfl h
  case escb => exact effect_escb h
  case xon => exact effect_plain h
  case xoff => exact effect_plain h
  case other b => exact effect_plain h
  all_goals exact effect_type rfl ((exec_frameType rfl s).symm.trans h)

end Sys2Proof.Machine
end

