-- ==== Sys2Proof/Laws/PerInstr.lean ====
section
/-! SUPPORT. What holds of every instruction, one lemma per constructor: decoding the code of a well-formed instruction
gives it back. -/

namespace Sys2Proof.Laws

theorem toNat_append_eq {v w : Nat} (x : BitVec v) (y : BitVec w) : (x ++ y).toNat = x.toNat * 2 ^ w + y.toNat := by
  rw [BitVec.toNat_append, ← Nat.shiftLeft_add_eq_or_of_lt y.isLt, Nat.shiftLeft_eq]

/-- The condition is on the instruction as syntax: its fields, its well-formedness, its encoding. -/
def RoundTrip.Statement (i : Instr) : Prop :=
  i.wf = true → decode (encode i) = .ok i

theorem RoundTrip.nop : RoundTrip.Statement .nop := fun _ => rfl

theorem RoundTrip.rxByte (b : Byte) : RoundTrip.Statement (.rxByte b) := by
  intro _
  have hlt := b.isLt
  have hw : (0x100000#24 ++ b : Word).toNat = 0x10000000 + b.toNat := toNat_append_eq _ _
  have hf : fieldByte (0x100000#24 ++ b) = b := BitVec.extractLsb'_append_eq_right
  change decodeEvent .transport (0x100000#24 ++ b) = _
  rw [decodeEvent_eq, hw, hf]
  iterate 1 rw [if_neg (by omega)]
  rw [if_pos (by omega)]
  rfl

theorem RoundTrip.rxClose : RoundTrip.Statement .rxClose := fun _ => rfl

theorem RoundTrip.dispatchAck (c : Bool) : RoundTrip.Statement (.dispatchAck c) := by
  intro _
  cases c <;> rfl

theorem RoundTrip.txStart (l : Half) : RoundTrip.Statement (.txStart l) := by
  intro _
  have hlt := l.isLt
  have hw : (0x4000#16 ++ l : Word).toNat = 0x40000000 + l.toNat := toNat_append_eq _ _
  have hf : fieldHalf (0x4000#16 ++ l) = l := BitVec.extractLsb'_append_eq_right
  change decodeEvent .host (0x4000#16 ++ l) = _
  rw [decodeEvent_eq, hw, hf]
  iterate 4 rw [if_neg (by omega)]
  rw [if_pos (by omega)]
  rfl

theorem RoundTrip.txData (b : Byte) : RoundTrip.Statement (.txData b) := by
  intro _
  have hlt := b.isLt
  have hw : (0x500000#24 ++ b : Word).toNat = 0x50000000 + b.toNat := toNat_append_eq _ _
  have hf : fieldByte (0x500000#24 ++ b) = b := BitVec.extractLsb'_append_eq_right
  change decodeEvent .host (0x500000#24 ++ b) = _
  rw [decodeEvent_eq, hw, hf]
  iterate 5 rw [if_neg (by omega)]
  rw [if_pos (by omega)]
  rfl

theorem RoundTrip.csrWriteCtrl (d : Half) : RoundTrip.Statement (.csrWriteCtrl d) := by
  intro _
  have hlt := d.isLt
  have hw : (0x6000#16 ++ d : Word).toNat = 0x60000000 + d.toNat := toNat_append_eq _ _
  have hf : fieldHalf (0x6000#16 ++ d) = d := BitVec.extractLsb'_append_eq_right
  change decodeEvent .host (0x6000#16 ++ d) = _
  rw [decodeEvent_eq, hw, hf]
  iterate 6 rw [if_neg (by omega)]
  rw [if_pos (by omega)]
  rfl

theorem RoundTrip.csrWriteStatus (d : Half) : RoundTrip.Statement (.csrWriteStatus d) := by
  intro _
  have hlt := d.isLt
  have hw : (0x6001#16 ++ d : Word).toNat = 0x60010000 + d.toNat := toNat_append_eq _ _
  have hf : fieldHalf (0x6001#16 ++ d) = d := BitVec.extractLsb'_append_eq_right
  change decodeEvent .host (0x6001#16 ++ d) = _
  rw [decodeEvent_eq, hw, hf]
  iterate 7 rw [if_neg (by omega)]
  rw [if_pos (by omega)]
  rfl

theorem RoundTrip.csrWrite (a : Byte) (d : Half) : RoundTrip.Statement (.csrWrite a d) := by
  intro h
  have ha := a.isLt
  have hd := d.isLt
  have h0 : a.toNat ≠ 0 := fun e => by
    have : a = 0#8 := BitVec.eq_of_toNat_eq e
    rw [this] at h
    exact absurd (show wfCsrWriteAddr _ = true from h) (by decide)
  have h1 : a.toNat ≠ 1 := fun e => by
    have : a = 1#8 := BitVec.eq_of_toNat_eq e
    rw [this] at h
    exact absurd (show wfCsrWriteAddr _ = true from h) (by decide)
  have hu : (0x60#8 ++ a : Half).toNat = 0x6000 + a.toNat := toNat_append_eq _ _
  have hw : (0x60#8 ++ a ++ d : Word).toNat = (0x6000 + a.toNat) * 65536 + d.toNat := by
    rw [← hu]; exact toNat_append_eq _ _
  have hf : fieldHalf (0x60#8 ++ a ++ d) = d := BitVec.extractLsb'_append_eq_right
  have hg : fieldAddr (0x60#8 ++ a ++ d) = a := by
    apply BitVec.eq_of_toNat_eq
    rw [fieldAddr, BitVec.extractLsb'_toNat, hw, Nat.shiftRight_eq_div_pow]
    omega
  change decodeEvent .host (0x60#8 ++ a ++ d) = _
  rw [decodeEvent_eq, hw, hf, hg]
  iterate 8 rw [if_neg (by omega)]
  rw [if_pos (by omega)]
  rfl

theorem RoundTrip.csrRead (a : Byte) : RoundTrip.Statement (.csrRead a) := by
  intro _
  have ha := a.isLt
  have hu : (0x70#8 ++ a : Half).toNat = 0x7000 + a.toNat := toNat_append_eq _ _
  have hw : (0x70#8 ++ a ++ 0x0000#16 : Word).toNat = (0x7000 + a.toNat) * 65536 + 0 := by
    rw [← hu]; exact toNat_append_eq _ _
  have hg : fieldAddr (0x70#8 ++ a ++ 0x0000#16) = a := by
    apply BitVec.eq_of_toNat_eq
    rw [fieldAddr, BitVec.extractLsb'_toNat, hw, Nat.shiftRight_eq_div_pow]
    omega
  change decodeEvent .host (0x70#8 ++ a ++ 0x0000#16) = _
  rw [decodeEvent_eq, hw, hg]
  iterate 9 rw [if_neg (by omega)]
  rw [if_pos (by omega)]
  rfl

theorem RoundTrip.start : RoundTrip.Statement .start := fun _ => rfl

theorem RoundTrip.softReset : RoundTrip.Statement .softReset := fun _ => rfl

theorem RoundTrip.reservedAB (x : BitVec 29) : RoundTrip.Statement (.reservedAB x) := by
  intro _
  have hlt := x.isLt
  have hw : (0x5#3 ++ x : Word).toNat = 5 * 536870912 + x.toNat := toNat_append_eq _ _
  have hf : (0x5#3 ++ x : Word).extractLsb' 0 29 = x := BitVec.extractLsb'_append_eq_right
  change decodeEvent .host (0x5#3 ++ x) = _
  rw [decodeEvent_eq, hw, hf]
  iterate 12 rw [if_neg (by omega)]
  rw [if_pos (by omega)]

theorem RoundTrip.reservedCF (x : BitVec 30) : RoundTrip.Statement (.reservedCF x) := by
  intro _
  have hlt := x.isLt
  have hw : (0x3#2 ++ x : Word).toNat = 3 * 1073741824 + x.toNat := toNat_append_eq _ _
  have hf : (0x3#2 ++ x : Word).extractLsb' 0 30 = x := BitVec.extractLsb'_append_eq_right
  change decodeEvent .host (0x3#2 ++ x) = _
  rw [decodeEvent_eq, hw, hf]
  iterate 13 rw [if_neg (by omega)]
  rw [if_pos (by omega)]

theorem RoundTrip.delim : RoundTrip.Statement .delim := fun _ => rfl

theorem RoundTrip.escb : RoundTrip.Statement .escb := fun _ => rfl

theorem RoundTrip.xon : RoundTrip.Statement .xon := fun _ => rfl

theorem RoundTrip.xoff : RoundTrip.Statement .xoff := fun _ => rfl

theorem RoundTrip.other (b : Byte) : RoundTrip.Statement (.other b) := by
  revert b
  simp only [RoundTrip.Statement]
  decide

theorem RoundTrip.ftTx64 : RoundTrip.Statement .ftTx64 := fun _ => rfl

theorem RoundTrip.ftTx16 : RoundTrip.Statement .ftTx16 := fun _ => rfl

theorem RoundTrip.ftAtCommand : RoundTrip.Statement .ftAtCommand := fun _ => rfl

theorem RoundTrip.ftAtCommandQueue : RoundTrip.Statement .ftAtCommandQueue := fun _ => rfl

theorem RoundTrip.ftTransmitRequest : RoundTrip.Statement .ftTransmitRequest := fun _ => rfl

theorem RoundTrip.ftExplicitAddressingCommand : RoundTrip.Statement .ftExplicitAddressingCommand := fun _ => rfl

theorem RoundTrip.ftRemoteAtCommandRequest : RoundTrip.Statement .ftRemoteAtCommandRequest := fun _ => rfl

theorem RoundTrip.ftUserDataRelay : RoundTrip.Statement .ftUserDataRelay := fun _ => rfl

theorem RoundTrip.ftRx64 : RoundTrip.Statement .ftRx64 := fun _ => rfl

theorem RoundTrip.ftRx16 : RoundTrip.Statement .ftRx16 := fun _ => rfl

theorem RoundTrip.ftRxIo64 : RoundTrip.Statement .ftRxIo64 := fun _ => rfl

theorem RoundTrip.ftRxIo16 : RoundTrip.Statement .ftRxIo16 := fun _ => rfl

theorem RoundTrip.ftAtCommandResponse : RoundTrip.Statement .ftAtCommandResponse := fun _ => rfl

theorem RoundTrip.ftTxStatus : RoundTrip.Statement .ftTxStatus := fun _ => rfl

theorem RoundTrip.ftModemStatus : RoundTrip.Statement .ftModemStatus := fun _ => rfl

theorem RoundTrip.ftTransmitStatus : RoundTrip.Statement .ftTransmitStatus := fun _ => rfl

theorem RoundTrip.ftReceivePacket : RoundTrip.Statement .ftReceivePacket := fun _ => rfl

theorem RoundTrip.ftExplicitRxIndicator : RoundTrip.Statement .ftExplicitRxIndicator := fun _ => rfl

theorem RoundTrip.ftIoDataSampleRxIndicator : RoundTrip.Statement .ftIoDataSampleRxIndicator := fun _ => rfl

theorem RoundTrip.ftRemoteAtCommandResponse : RoundTrip.Statement .ftRemoteAtCommandResponse := fun _ => rfl

theorem RoundTrip.ftUserDataRelayOutput : RoundTrip.Statement .ftUserDataRelayOutput := fun _ => rfl

theorem RoundTrip.ftGeneric : RoundTrip.Statement .ftGeneric := fun _ => rfl

theorem RoundTrip.ftUnknown (ft : Byte) : RoundTrip.Statement (.ftUnknown ft) := by
  revert ft
  simp only [RoundTrip.Statement]
  decide

end Sys2Proof.Laws
end

