-- ==== Sys2Proof/Tests/Slice0.lean ====
section
/-! SUPPORT. Tests: ill-formed terms, decoding of words written out from the spec's encodings, the spec's own vectors
(spec/95_test_vectors.md, named `V-…`) one event at a time, the assembly syntax, the fetch of an opcode-table word; and
the witnesses that the hypotheses of the statements can be met. -/

namespace Sys2Proof.Tests

open Sys2Proof Sys2Proof.Machine

/-! ### Well-formedness -/

theorem test_wf_csrWrite_special_addresses :
    (Instr.csrWrite 0x00 0x0001).wf = false ∧ (Instr.csrWrite 0x01 0x00E0).wf = false ∧
      (Instr.csrWrite 0x02 0x0005).wf = true := by decide

theorem test_wf_other_escaped_bytes :
    (Instr.other 0x7E).wf = false ∧ (Instr.other 0x7D).wf = false ∧ (Instr.other 0x11).wf = false ∧
      (Instr.other 0x13).wf = false ∧ (Instr.other 0x12).wf = true := by decide

theorem test_wf_unknown_named_types :
    (∀ b ∈ namedFrameTypes, (Instr.ftUnknown b).wf = false) ∧ (Instr.ftUnknown 0x42).wf = true := by decide

/-! ### Decoding: one word or byte of every constructor, written out from R70, R64 and R113 -/

theorem test_decode_events :
    decodeEvent .host 0x00000000 = .ok .nop ∧ decodeEvent .transport 0x00000000 = .ok .nop ∧
    decodeEvent .transport 0x1000007E = .ok (.rxByte 0x7E) ∧ decodeEvent .transport 0x20000000 = .ok .rxClose ∧
    decodeEvent .host 0x30000000 = .ok (.dispatchAck false) ∧ decodeEvent .host 0x30000001 = .ok (.dispatchAck true) ∧
    decodeEvent .host 0x4000000C = .ok (.txStart 0x000C) ∧ decodeEvent .host 0x5000008A = .ok (.txData 0x8A) ∧
    decodeEvent .host 0x60000003 = .ok (.csrWriteCtrl 0x0003) ∧
    decodeEvent .host 0x600100E0 = .ok (.csrWriteStatus 0x00E0) ∧
    decodeEvent .host 0x60100005 = .ok (.csrWrite 0x10 0x0005) ∧ decodeEvent .host 0x70140000 = .ok (.csrRead 0x14) ∧
    decodeEvent .host 0x80000000 = .ok .start ∧ decodeEvent .host 0x90000000 = .ok .softReset ∧
    decodeEvent .host 0xA0000000 = .ok (.reservedAB 0x00000000) ∧
    decodeEvent .transport 0xB0000001 = .ok (.reservedAB 0x10000001) ∧
    decodeEvent .host 0xC0000000 = .ok (.reservedCF 0x00000000) ∧
    decodeEvent .host 0xF0000002 = .ok (.reservedCF 0x30000002) := by decide

/-- V-CTL-18, V-CTL-19, V-RX-35: set reserved bits, and operations on the wrong port. -/
theorem test_decode_reserved :
    decodeEvent .host 0x30000002 = .error .noRow ∧ decodeEvent .host 0x00000001 = .error .noRow ∧
    decodeEvent .host 0x70000001 = .error .noRow ∧ decodeEvent .host 0x80000001 = .error .noRow ∧
    decodeEvent .transport 0x10000100 = .error .noRow ∧ decodeEvent .host 0x61000000 = .error .noRow ∧
    decodeEvent .host 0x10000041 = .error .wrongPort ∧ decodeEvent .transport 0x50000041 = .error .wrongPort := by decide

theorem test_decode_wire_bytes :
    decode (.wire 0x7E) = .ok .delim ∧ decode (.wire 0x7D) = .ok .escb ∧ decode (.wire 0x11) = .ok .xon ∧
    decode (.wire 0x13) = .ok .xoff ∧ decode (.wire 0x12) = .ok (.other 0x12) := by decide

theorem test_decode_frame_types :
    decode (.frameType 0x00) = .ok .ftTx64 ∧ decode (.frameType 0x01) = .ok .ftTx16 ∧
    decode (.frameType 0x08) = .ok .ftAtCommand ∧ decode (.frameType 0x09) = .ok .ftAtCommandQueue ∧
    decode (.frameType 0x10) = .ok .ftTransmitRequest ∧ decode (.frameType 0x11) = .ok .ftExplicitAddressingCommand ∧
    decode (.frameType 0x17) = .ok .ftRemoteAtCommandRequest ∧ decode (.frameType 0x2D) = .ok .ftUserDataRelay ∧
    decode (.frameType 0x80) = .ok .ftRx64 ∧ decode (.frameType 0x81) = .ok .ftRx16 ∧
    decode (.frameType 0x82) = .ok .ftRxIo64 ∧ decode (.frameType 0x83) = .ok .ftRxIo16 ∧
    decode (.frameType 0x88) = .ok .ftAtCommandResponse ∧ decode (.frameType 0x89) = .ok .ftTxStatus ∧
    decode (.frameType 0x8A) = .ok .ftModemStatus ∧ decode (.frameType 0x8B) = .ok .ftTransmitStatus ∧
    decode (.frameType 0x90) = .ok .ftReceivePacket ∧ decode (.frameType 0x91) = .ok .ftExplicitRxIndicator ∧
    decode (.frameType 0x92) = .ok .ftIoDataSampleRxIndicator ∧
    decode (.frameType 0x97) = .ok .ftRemoteAtCommandResponse ∧
    decode (.frameType 0xAD) = .ok .ftUserDataRelayOutput ∧ decode (.frameType 0xFF) = .ok .ftGeneric ∧
    decode (.frameType 0x42) = .ok (.ftUnknown 0x42) := by decide

theorem test_decodeTableWord :
    decodeTableWord 32 0x5000008A = some (.txData 0x8A) ∧ decodeTableWord 32 0x1000007E = some (.rxByte 0x7E) ∧
    decodeTableWord 32 0xA0000000 = some (.reservedAB 0) ∧ decodeTableWord 8 0x7E = some .delim ∧
    decodeTableWord 8 0x11 = some .xon ∧ decodeTableWord 24 0x11 = some .ftExplicitAddressingCommand ∧
    decodeTableWord 8 0x8A = some .ftModemStatus ∧ decodeTableWord 8 0x42 = some (.other 0x42) ∧
    decodeTableWord 32 0x10000100 = none := by decide

/-! ### Byte codec -/

/-- V-BC-9, V-BC-14 to V-BC-18. -/
theorem test_escape :
    escape [0x7E, 0x7D, 0x11, 0x13] true = [0x7D, 0x5E, 0x7D, 0x5D, 0x7D, 0x31, 0x7D, 0x33] ∧
    unescape [0x7D, 0x41] true = some [0x61] ∧ unescape [0x11, 0x7D, 0x7D] true = some [0x11, 0x5D] ∧
    unescape [0x41, 0x7D] true = none ∧ unescape [0x7D, 0x7D, 0x7D, 0x5D] true = some [0x5D, 0x7D] ∧
    unescape [0x7D, 0x5E] false = some [0x7D, 0x5E] := by decide

/-- V-BC-20, V-BC-22 to V-BC-25, V-BC-28 to V-BC-30. -/
theorem test_checksum :
    cksum [] = 0xFF ∧ cksum [0x01, 0xFE] = 0x00 ∧ cksum [0x8A, 0x06] = 0x6F ∧ cksum [0x08, 0x01, 0x4E, 0x49] = 0x5F ∧
    cksum [0x80, 0x80] = 0xFF ∧ verify [0x8A, 0x06] 0x6E = false ∧ verify [] 0xFF = true ∧
    verify [0x8B, 0x05] 0x6F = true := by decide

/-- V-BC-31, V-BC-32. -/
theorem test_be16 :
    be16 0x7D11 = [0x7D, 0x11] ∧ unbe16 [0x12, 0x34] = some 0x1234 ∧ unbe16 [0x34] = some 0x0034 ∧
      unbe16 [] = some 0x0000 := by decide

/-- V-BC-41, V-BC-44, V-BC-45; R90 on what follows a frame, and its errors. -/
theorem test_frame :
    frame [] true = [0x7E, 0x00, 0x00, 0xFF] ∧
    frame [0x7E, 0x7D, 0x11, 0x13] true = [0x7E, 0x00, 0x04, 0x7D, 0x5E, 0x7D, 0x5D, 0x7D, 0x31, 0x7D, 0x33, 0xE0] ∧
    frame [0x00, 0x81] true = [0x7E, 0x00, 0x02, 0x00, 0x81, 0x7D, 0x5E] ∧
    deframe [0x7E, 0x00, 0x02, 0x8A, 0x06, 0x6F, 0x41] false = .ok [0x8A, 0x06] [0x41] ∧
    deframe [0x41] false = .invalidDelimiter ∧ deframe [0x7E, 0x00, 0x01, 0x7D] true = .incompleteFrame ∧
    deframe [0x7E, 0x00, 0x00, 0xFE, 0x41] false = .checksumError [0x41] := by decide

/-! ### Single events -/

/-- What is read of the next state, if there is one. -/
def after {α : Type} (f : State → α) : Outcome → Option α
  | .next t => some (f t)
  | .fault _ => none
  | .refused _ => none

/-- A receiver in `SEEK`. -/
def seeking : State := { State.reset with rxState := .seek }

/-- A receiver with a frame open: its state, latched modes, pending escape, length and the bytes received. -/
def receiving (x : RxState) (esc rsync epend : Bool) (len : Half) (d : List Byte) : State :=
  { State.reset with
    rxState := x
    rxLesc := esc
    rxLrsync := rsync
    rxEpend := epend
    rxLen := len
    rxCnt := BitVec.ofNat 16 d.length
    rxSum := sum8 d
    pbuf := Memory.ofBytes 0 d }

/-- A receiver that has offered the frame data `[8A 06]` (the end of V-RX-3). -/
def offered : State :=
  { receiving .dispatch false false false 2 [0x8A, 0x06] with
    drec := ⟨0x8A, .modemStatus, true, false, 0x00, 2⟩
    disp := [.offer ⟨0x8A, .modemStatus, true, false, 0x00, 2, [0x8A, 0x06]⟩]
    cntFrames := 1 }

/-- A transmitter with a frame open. -/
def sending (esc : Bool) (rem : Half) (sum : Byte) : State :=
  { State.reset with txState := .tPayload, txLesc := esc, txRem := rem, txSum := sum }

/-- V-CTL-16, V-RX-34. -/
theorem test_nop : exec .nop offered = .next offered := rfl

/-- V-RX-1: a byte before `START` is discarded. -/
theorem test_rxByte_idle : exec (.rxByte 0x7E) State.reset = .next State.reset := rfl

/-- V-RX-14: the failing checksum of `[8A 06]`. -/
theorem test_rxByte_checksum :
    after (fun t => (t.evt, t.rxState, t.cntCksum)) (exec (.rxByte 0x6E) (receiving .checksum false false false 2 [0x8A, 0x06])) =
      some ([.checksumError 0x6E 0x6F 2], .seek, 1) := by decide

/-- V-RX-26: the receive registers stay. -/
theorem test_rxClose_body :
    after (fun t => (t.evt, t.rxState, t.rxLen, t.rxCnt, t.rxSum, t.connlost))
      (exec .rxClose (receiving .payload false false false 5 [0x88, 0x01, 0x4E])) =
      some ([.incompleteFrame .payload false .close, .connectionLost], .stopped, 5, 3, 0xD7, true) := by decide

/-- V-RX-25: `STATUS` after a close in `SEEK`. -/
theorem test_rxClose_seek : after statusWord (exec .rxClose seeking) = some 0x0087 := by decide

/-- V-RX-4, V-DSP-26. -/
theorem test_dispatchAck_deliver :
    after (fun t => (t.disp.getLast?, t.rxState)) (exec (.dispatchAck false) offered) =
      some (some (.deliver ⟨0x8A, .modemStatus, true, false, 0x00, 2, [0x8A, 0x06]⟩ false true), .seek) := by decide

/-- V-DSP-29. -/
theorem test_dispatchAck_unasked :
    exec (.dispatchAck true) seeking = .next { seeking with badcmd := true } := rfl

/-- V-TX-7. -/
theorem test_txStart_escaped :
    after (fun t => (t.txo, t.txRem, t.txState)) (exec (.txStart 0x7D11) { State.reset with ctrlEsc := true }) =
      some ([0x7E, 0x7D, 0x5D, 0x7D, 0x31], 0x7D11, .tPayload) := by decide

/-- V-TX-4. -/
theorem test_txStart_empty :
    after (fun t => (t.txo, t.txState)) (exec (.txStart 0) State.reset) = some ([0x7E, 0x00, 0x00, 0xFF], .tIdle) := by
  decide

/-- V-TX-3: the last byte brings the checksum, and `TX_SUM` stays. -/
theorem test_txData_last :
    after (fun t => (t.txo, t.txState, t.txRem, t.txSum)) (exec (.txData 0x06) (sending false 1 0x8A)) =
      some ([0x06, 0x6F], .tIdle, 0, 0x90) := by decide

/-- V-TX-6: an escaped checksum, in the latched mode. -/
theorem test_txData_escaped_checksum :
    after State.txo (exec (.txData 0x81) (sending true 1 0x00)) = some [0x81, 0x7D, 0x5E] := by decide

/-- V-CTL-3. -/
theorem test_csrWriteCtrl : after ctrlWord (exec (.csrWriteCtrl 0xFFFF) State.reset) = some 0x0003 := by decide

/-- V-CTL-4. -/
theorem test_csrWriteStatus :
    after statusWord (exec (.csrWriteStatus 0x0040) { seeking with txerr := true, badcmd := true, connlost := true }) =
      some 0x00A1 := by decide

/-- V-CTL-7, V-CTL-8. -/
theorem test_csrWrite : exec (.csrWrite 0x10 0x0000) offered = .next { offered with badcmd := true } := rfl

/-- V-CTL-9, V-CTL-10. -/
theorem test_csrRead_mapped :
    after State.csro (exec (.csrRead 0x01) (receiving .payload true false true 3 [0x8A])) = some [0x010C] ∧
    after State.csro (exec (.csrRead 0x07) offered) = some [0x0B8A] := by decide

/-- V-CTL-2. -/
theorem test_csrRead_reserved :
    exec (.csrRead 0x0A) State.reset = .next { State.reset with csro := [0x0000], badcmd := true } := rfl

/-- V-CTL-13, V-CTL-12. -/
theorem test_start :
    after (fun t => (t.rxState, t.rxCnt, t.pbuf)) (exec .start (receiving .stopped false false false 5 [0x88, 0x01, 0x4E])) =
      some (.seek, 0, []) ∧
    exec .start offered = .next offered := ⟨by decide, rfl⟩

/-- V-CTL-15: the streams stay, the rest is at its reset value. -/
theorem test_softReset : exec .softReset offered = .next { State.reset with disp := offered.disp } := rfl

/-- V-CTL-17. -/
theorem test_reserved :
    exec (.reservedAB 0) State.reset = .next { State.reset with badcmd := true } ∧
    exec (.reservedCF 0) State.reset = .next { State.reset with badcmd := true } := ⟨rfl, rfl⟩

/-- V-RX-22: the resync test precedes the escape test. -/
theorem test_delim_resync :
    after (fun t => (t.evt, t.rxState, t.pbuf)) (exec .delim (receiving .payload true true true 2 [0x8A])) =
      some ([.incompleteFrame .payload true .resync], .lenHi, []) := by decide

/-- V-RX-20: with `RSYNC = 0` the pair `7D 7E` is the value `5E`. -/
theorem test_delim_value :
    after (fun t => pbufBytes t) (exec .delim (receiving .payload true false true 3 [0x8A])) = some [0x8A, 0x5E] := by decide

/-- V-RX-23, and the first half of an escape pair. -/
theorem test_escb :
    after State.evt (exec .escb { seeking with ctrlEsc := true }) = some [.invalidDelimiter 0x7D] ∧
    exec .escb (receiving .payload true false false 3 [0x8A]) = .next (receiving .payload true false true 3 [0x8A]) :=
  ⟨by decide, rfl⟩

/-- R103: a second `7D` is the partner and decodes to `5D`. -/
theorem test_escb_partner :
    after (fun t => (pbufBytes t, t.rxEpend)) (exec .escb (receiving .payload true false true 3 [0x8A])) =
      some ([0x8A, 0x5D], false) := by decide

/-- V-RX-9, and R64's value `31` after an escape byte. -/
theorem test_xon :
    after (fun t => pbufBytes t) (exec .xon (receiving .payload true false false 3 [0x8A])) = some [0x8A, 0x11] ∧
    after (fun t => pbufBytes t) (exec .xon (receiving .payload true false true 3 [0x8A])) = some [0x8A, 0x31] := by decide

/-- R64, R105: the length byte `33` from the pair `7D 13`. -/
theorem test_xoff :
    after (fun t => (t.rxLen, t.rxState)) (exec .xoff (receiving .lenHi true false true 0 [])) =
      some (0x3300, .lenLo) := by decide

/-- V-RX-8: a non-canonical pair; V-RX-10: the empty frame is malformed. -/
theorem test_other :
    after (fun t => pbufBytes t) (exec (.other 0x26) (receiving .payload true false true 3 [0x8A])) = some [0x8A, 0x06] ∧
    after (fun t => (t.evt, t.rxState, t.disp)) (exec (.other 0xFF) (receiving .checksum false false false 0 [])) =
      some ([.malformedPacket false 0x00 0], .seek, []) := by decide

/-- R106: the second length byte, and the length 0. -/
theorem test_length_low :
    after (fun t => (t.rxLen, t.rxState)) (exec (.other 0x0C) (receiving .lenLo false false false 0x0100 [])) =
      some (0x010C, .payload) ∧
    after (fun t => (t.rxLen, t.rxState)) (exec (.other 0x00) (receiving .lenLo false false false 0 [])) =
      some (0, .checksum) := by decide

/-! ### The frame-type rows, on a frame of the row's type (default table) -/

/-- A passed frame of a type byte and `n` zeros. -/
def passed (ft : Byte) (n : Nat) : State :=
  receiving .checksum false false false (BitVec.ofNat 16 (n + 1)) (ft :: List.replicate n 0x00)

/-- Whether a frame of a row's type is rejected when it is one byte short of `min_len`, and what is offered at `min_len`:
class and `fidv`. -/
def atMinLen (i : Instr) (ft : Byte) (n : Nat) : Option (RxState × Half) × Option (RxState × Kind × Bool × Bool) :=
  (after (fun t => (t.rxState, t.cntMalformed)) (exec i (passed ft (n - 2))),
   after (fun t => (t.rxState, t.drec.kind, t.drec.known, t.drec.fidv)) (exec i (passed ft (n - 1))))

/-- The values of R113, the rows with a frame id. -/
theorem test_frame_types_with_id :
    ∀ r ∈ [ (Instr.ftTx64, (0x00 : Byte), 11), (.ftTx16, 0x01, 5), (.ftAtCommand, 0x08, 4), (.ftAtCommandQueue, 0x09, 4),
            (.ftTransmitRequest, 0x10, 14), (.ftExplicitAddressingCommand, 0x11, 20),
            (.ftRemoteAtCommandRequest, 0x17, 15), (.ftUserDataRelay, 0x2D, 3), (.ftAtCommandResponse, 0x88, 5),
            (.ftTxStatus, 0x89, 3), (.ftTransmitStatus, 0x8B, 7), (.ftRemoteAtCommandResponse, 0x97, 15) ],
      atMinLen r.1 r.2.1 r.2.2 = (some (.seek, 1), some (.dispatch, .generic, true, true)) := by decide

/-- The values of R113, the rows without a frame id. -/
theorem test_frame_types_without_id :
    ∀ r ∈ [ (Instr.ftRx64, (0x80 : Byte), 11, Kind.data), (.ftRx16, 0x81, 5, .data), (.ftRxIo64, 0x82, 11, .ioSample),
            (.ftRxIo16, 0x83, 5, .ioSample), (.ftModemStatus, 0x8A, 2, .modemStatus),
            (.ftReceivePacket, 0x90, 12, .data), (.ftExplicitRxIndicator, 0x91, 18, .data),
            (.ftIoDataSampleRxIndicator, 0x92, 12, .ioSample), (.ftUserDataRelayOutput, 0xAD, 2, .generic) ],
      atMinLen r.1 r.2.1 r.2.2.1 = (some (.seek, 1), some (.dispatch, r.2.2.2, true, false)) := by decide

/-- V-DSP-11, V-DSP-9, V-DSP-10: types of one byte. -/
theorem test_ftGeneric_ftUnknown :
    after (fun t => (t.rxState, t.drec)) (exec .ftGeneric (passed 0xFF 0)) =
      some (.dispatch, ⟨0xFF, .generic, true, false, 0x00, 1⟩) ∧
    after (fun t => (t.rxState, t.drec)) (exec (.ftUnknown 0x42) (passed 0x42 0)) =
      some (.dispatch, ⟨0x42, .generic, false, false, 0x00, 1⟩) := by decide

/-- V-DSP-4, V-DSP-6: a discovery response, and one that is too short. -/
theorem test_discovery :
    classify defaultParams [0x88, 0x01, 0x4E, 0x44, 0x00] = some ⟨true, .discovery, true, 0x01⟩ ∧
    classify defaultParams [0x88, 0x01, 0x4E, 0x49, 0x00] = some ⟨true, .generic, true, 0x01⟩ ∧
    malformed defaultParams [0x88, 0x01, 0x4E, 0x44] = true := by decide

/-- V-DSP-23 to V-DSP-28. -/
theorem test_route :
    (∀ k ∈ [Kind.generic, .ioSample, .modemStatus, .discovery], route [.data] k true = (true, false)) ∧
    route [.data] .data true = (true, true) ∧ route [.data] .data false = (false, true) ∧
    route [] .data true = (true, false) := by decide

/-! ### Steps, fetch, assembly -/

/-- V-CTL-19: a word on the wrong port; V-RX-4: a held TRANSPORT event; R182: the end of a run. -/
theorem test_step :
    after State.badcmd (step { State.reset with host := [0x10000041] }) = some true ∧
    step { offered with transport := [0x1000007E] } = .fault .transportHeld ∧
    step State.reset = .fault .endOfRun := ⟨by decide, rfl, rfl⟩

/-- V-CTL-14: in `DISPATCH` the HOST port is served and the hold lifts. -/
theorem test_step_reset_in_dispatch :
    after (fun t => (t.rxState, t.transport, t.host))
      (step { offered with transport := [0x1000007E], host := [0x90000000] }) = some (.idle, [0x1000007E], []) := by decide

theorem test_withFetchWord :
    after State.txo (step (State.reset.withFetchWord 32 0x40000000)) = some [0x7E, 0x00, 0x00, 0xFF] ∧
    after (fun t => t.drec.ft) (step (State.reset.withFetchWord 8 0x8A)) = some 0x8A ∧
    after (fun t => t.drec.ft) (step (State.reset.withFetchWord 24 0x11)) = some 0x11 ∧
    after State.transport (step (State.reset.withFetchWord 8 0x7E)) = some [] := by decide

/-- R74, R75. -/
theorem test_assembly :
    assembleLine "T: FEED [0x7E, 0, 12] ; noise" =
      some [(.transport, 0x1000007E), (.transport, 0x10000000), (.transport, 0x1000000C)] ∧
    assembleLine "H: CLEAR_STICKY" = some [(.host, 0x600100E0)] ∧
    assembleLine "H: SEND [0x8A, 0x06]" = some [(.host, 0x40000002), (.host, 0x5000008A), (.host, 0x50000006)] ∧
    assembleLine "H: MODE 3" = some [(.host, 0x60000003)] ∧ assembleLine "H: FEED [1]" = none := by decide

/-! ### Witnesses: states and operands that meet the hypotheses of the statements, clause by clause -/

/-- The receiver of V-RX-3 meets the invariant, in `DISPATCH`. -/
theorem blockInv_offered : BlockInv offered :=
  ⟨by decide, by decide, by decide, by decide, by decide, by decide⟩

/-- A receiver in `PAYLOAD`, an escape pending, and a transmit frame open. -/
theorem blockInv_payload :
    BlockInv { receiving .payload true true true 2 [0x8A] with txState := .tPayload, txRem := 0xFFFF } :=
  ⟨by decide, by decide, by decide, by decide, by decide, by decide⟩

/-- A receiver before a passing checksum byte. -/
theorem blockInv_checksum : BlockInv (receiving .checksum false false false 2 [0x8A, 0x06]) :=
  ⟨by decide, by decide, by decide, by decide, by decide, by decide⟩

theorem witness_EncodeThenDecodeReturnsTheInstruction :
    (Instr.csrWrite 0xFF 0xFFFF).wf = true ∧ (Instr.other 0x7F).wf = true ∧ (Instr.ftUnknown 0x02).wf = true ∧
      Instr.nop.wf = true := by decide

theorem witness_DecodedCodesEncodeBack :
    decode (.event .host 0x5000008A) = .ok (.txData 0x8A) ∧ decode (.event .transport 0xF0000002) = .ok (.reservedCF 0x30000002) ∧
      decode (.wire 0x13) = .ok .xoff ∧ decode (.frameType 0xFE) = .ok (.ftUnknown 0xFE) := by decide

/-- Words that a special `CSR_WRITE` row and the general one both hit, and one that the general row hits alone. -/
theorem witness_EventRowsAreDisjoint :
    (eventRows.filter (·.hits 0x6000FFFF)).map EventRow.mask = [0xFFFF0000, 0xFF000000] ∧
    (eventRows.filter (·.hits 0x60010000)).map EventRow.mask = [0xFFFF0000, 0xFF000000] ∧
    (eventRows.filter (·.hits 0x60020000)).map EventRow.mask = [0xFF000000] := by decide

theorem witness_DecodeRejectsExactlyTheReservedWords :
    isReservedWord .host 0x10000041 ∧ isReservedWord .transport 0x10000100 ∧ isReservedWord .host 0xA0000000 ∧
      isReservedWord .host 0xFFFFFFFF ∧ ¬isReservedWord .host 0x00000000 ∧ ¬isReservedWord .transport 0x100000FF := by
  decide

theorem witness_ReservedWordsOnlySetBadcmd :
    (selectPort { seeking with host := [0x10000041] } = some .host ∧ isReservedWord .host 0x10000041) ∧
    (selectPort { seeking with transport := [0x10000100, 0x00000000] } = some .transport ∧
      isReservedWord .transport 0x10000100) ∧
    offered.rxState = .dispatch := by decide

theorem witness_EscapeLaws :
    (escape [0x7D, 0x41] true)[0]? = some 0x7D ∧ (0x7D : Byte) ∈ escape [0x13] true ∧
      ([0x7E] : List Byte).length ≤ 65535 ∧ escape [0x7E] true = escape [0x7E] true := by decide

theorem witness_ChecksumLaws :
    verify ([0x8A] ++ 0x06 :: []) 0x6F = true ∧ (0x06 : Byte) ≠ 0x07 ∧ (0x6F : Byte) ≠ 0x6E ∧
      [(0x8A : Byte), 0x06].Perm [0x06, 0x8A] := by decide

/-- The lengths 0 and 65535, for the statements about frames. -/
theorem witness_frameLength :
    ([] : List Byte).length ≤ 65535 ∧ (List.replicate 65535 (0x11 : Byte)).length ≤ 65535 :=
  ⟨Nat.zero_le _, Nat.le_of_eq List.length_replicate⟩

theorem witness_TxStartOpensAFrame :
    (sending true 0xFFFF 0x00).txState = .tPayload ∧ State.reset.txState = .tIdle := by decide

theorem witness_TxDataSendsAByte :
    ((sending true 1 0x00).txState = .tPayload ∧ (sending true 1 0x00).txRem = 1) ∧
    (sending true 0xFFFF 0x00).txState = .tPayload ∧ State.reset.txState = .tIdle := by decide

/-- A frame of one byte with a mode change and a refused `TX_START` between, and the empty frame. -/
theorem witness_FramerEmitsTheReferenceFrame :
    (∃ t, runInstrs (.txStart (BitVec.ofNat 16 [(0x8A : Byte)].length) ::
        [.csrWriteCtrl 1, .txStart 5, .rxClose, .txData 0x8A]) State.reset = .next t ∧
      .softReset ∉ [Instr.csrWriteCtrl 1, .txStart 5, .rxClose, .txData 0x8A] ∧
      ([Instr.csrWriteCtrl 1, .txStart 5, .rxClose, .txData 0x8A].filterMap fun | .txData b => some b | _ => none) =
        [(0x8A : Byte)] ∧
      [Instr.csrWriteCtrl 1, .txStart 5, .rxClose, .txData 0x8A].getLast? = some (.txData 0x8A)) ∧
    (∃ t, runInstrs (.txStart (BitVec.ofNat 16 ([] : List Byte).length) :: []) State.reset = .next t) :=
  ⟨⟨_, rfl, by decide, by decide, by decide⟩, ⟨_, rfl⟩⟩

theorem witness_TransmitIsIndependentOfReceive :
    (∃ t, isReceiveSide (.rxByte 0x7E) = true ∧ exec (.rxByte 0x7E) seeking = .next t) ∧
    (∃ t, (sending true 1 0x00).txState = .tPayload ∧ exec (.txData 0x81) (sending true 1 0x00) = .next t ∧
      t.txState = .tIdle) ∧
    (∃ t, exec .softReset (sending true 2 0x00) = .next t ∧ t.txState = .tIdle) :=
  ⟨⟨_, rfl, rfl⟩, ⟨_, rfl, rfl, rfl⟩, ⟨_, rfl, rfl⟩⟩

theorem witness_BytesAreDiscardedWhenNotRunning :
    wireByteOf .delim = some 0x7E ∧ State.reset.rxState = .idle ∧
      (receiving .stopped false false false 0 []).rxState = .stopped := by decide

theorem witness_SeekFindsTheDelimiter :
    (wireByteOf (.rxByte 0x7E) = some 0x7E ∧ (Instr.rxByte 0x7E).wf = true ∧ seeking.rxState = .seek) ∧
    wireByteOf (.other 0x7F) = some 0x7F ∧ (Instr.other 0x7F).wf = true ∧ wireByteOf .escb = some 0x7D := by decide

/-- Held with nothing on the HOST port; and the two events that lift the hold. -/
theorem witness_TransportIsHeldInDispatch :
    (offered.rxState = .dispatch ∧ { offered with transport := [0x00000000] }.host = [] ∧
      { offered with transport := [0x00000000] }.transport ≠ []) ∧
    (∃ t, step { offered with host := [0x30000001] } = .next t ∧ t.rxState ≠ .dispatch) ∧
    (∃ t, step { offered with host := [0x90000000] } = .next t ∧ t.rxState ≠ .dispatch) :=
  ⟨by decide, ⟨_, rfl, by decide⟩, ⟨_, rfl, by decide⟩⟩

/-- The three clauses in each body state; the resync with an escape pending too, which is no value byte. -/
theorem witness_BodyBytesAreUnescaped :
    ∀ x ∈ [RxState.lenHi, .lenLo, .payload, .checksum],
      (receiving x true true true 2 []).rxState = x ∧
      ((receiving x true true true 2 []).rxLesc = true ∧ (receiving x true true true 2 []).rxLrsync = true ∧
        ¬takesValue 0x7E (receiving x true true true 2 [])) ∧
      ((receiving x true false false 2 []).rxEpend = false ∧ ¬takesValue 0x7D (receiving x true false false 2 [])) ∧
      takesValue 0x7D (receiving x true true true 2 []) ∧ takesValue 0x7E (receiving x true false true 2 []) ∧
      takesValue 0x7E (receiving x false true false 2 []) ∧ takesValue 0x7D (receiving x false false false 2 []) := by
  decide

theorem witness_RawDelimiterResyncs :
    (receiving .lenHi true true false 0 []).rxState = .lenHi ∧ (receiving .checksum true true true 0 []).rxState = .checksum ∧
      (receiving .checksum true true true 0 []).rxLesc = true ∧ (receiving .checksum true true true 0 []).rxLrsync = true := by
  decide

theorem witness_LengthBytes :
    (receiving .lenHi true false true 0 []).rxState = .lenHi ∧ takesValue 0x5E (receiving .lenHi true false true 0 []) ∧
    (receiving .lenLo false false false 0xFF00 []).rxState = .lenLo ∧
      takesValue 0xFF (receiving .lenLo false false false 0xFF00 []) ∧
      takesValue 0x00 (receiving .lenLo false false false 0 []) := by decide

/-- The last byte of a frame, the first of one of 65535, and a state of the invariant. -/
theorem witness_PayloadByteIsStored :
    ((receiving .payload false false false 2 [0x8A]).rxCnt < (receiving .payload false false false 2 [0x8A]).rxLen ∧
      takesValue 0x06 (receiving .payload false false false 2 [0x8A])) ∧
    (receiving .payload false false false 0xFFFF []).rxCnt < (receiving .payload false false false 0xFFFF []).rxLen ∧
    BlockInv { receiving .payload true true true 2 [0x8A] with txState := .tPayload, txRem := 0xFFFF } :=
  ⟨by decide, by decide, blockInv_payload⟩

theorem witness_ChecksumByteIsVerified :
    (receiving .checksum false false false 2 [0x8A, 0x06]).rxState = .checksum ∧
    takesValue 0x6F (receiving .checksum false false false 2 [0x8A, 0x06]) ∧
    (receiving .checksum false false false 2 [0x8A, 0x06]).rxSum + 0x6F = 0xFF ∧
    (receiving .checksum false false false 2 [0x8A, 0x06]).rxSum + 0x6E ≠ 0xFF := by decide

theorem witness_CloseStopsTheReceiver :
    (receiving .stopped false false false 0 []).rxState = .stopped ∧ offered.rxState = .dispatch ∧
    State.reset.rxState = .idle ∧ seeking.rxState = .seek ∧ (receiving .lenHi true false true 0 []).rxState = .lenHi ∧
    (receiving .checksum true false true 0 []).rxState = .checksum := by decide

/-- Each event of the second clause, and a way into `STOPPED`. -/
theorem witness_FramingErrorsAreNotFatal :
    (∃ t, exec .rxClose seeking = .next t ∧ t.rxState = .stopped) ∧
    (∃ t, exec .xon seeking = .next t ∧ t.evt = seeking.evt ++ [.invalidDelimiter 0x11]) ∧
    (∃ t, exec (.rxByte 0x6E) (receiving .checksum false false false 2 [0x8A, 0x06]) = .next t ∧
      t.evt = [] ++ [.checksumError 0x6E 0x6F 2]) ∧
    (∃ t, exec (.rxByte 0xFF) (receiving .checksum false false false 0 []) = .next t ∧
      t.evt = [] ++ [.malformedPacket false 0x00 0]) ∧
    (∃ t, exec .delim (receiving .lenLo true true true 0 []) = .next t ∧
      t.evt = [] ++ [.incompleteFrame .lenLo true .resync]) :=
  ⟨⟨_, rfl, rfl⟩, ⟨_, rfl, rfl⟩, ⟨_, rfl, rfl⟩, ⟨_, rfl, rfl⟩, ⟨_, rfl, rfl⟩⟩

theorem witness_ReceiverIsTheReferenceDecoder :
    seeking.rxState = .seek ∧ seeking.ctrlRsync = false ∧ { seeking with ctrlEsc := true }.ctrlRsync = false := by decide

/-- The three outcomes of a loopback: empty, too short for its type, offered. -/
theorem witness_LoopbackOffersTheFrame :
    malformed seeking.params [] = true ∧ malformed seeking.params [0x8A] = true ∧
    malformed seeking.params [0x8A, 0x06] = false ∧ malformed seeking.params [0x42] = false := by decide

/-- A malformed frame, a valid one, one of a type outside the table, and the empty frame. -/
theorem witness_FrameTypeRowsValidate :
    (frameTypeOf .ftModemStatus = some 0x8A ∧ frameData (passed 0x8A 0) = some (0x8A :: []) ∧
      malformed (passed 0x8A 0).params (0x8A :: []) = true) ∧
    (frameData (passed 0x8A 1) = some (0x8A :: [0x00]) ∧ malformed (passed 0x8A 1).params (0x8A :: [0x00]) = false ∧
      classify (passed 0x8A 1).params (0x8A :: [0x00]) = some ⟨true, .modemStatus, false, 0x00⟩) ∧
    (frameTypeOf (.ftUnknown 0x42) = some 0x42 ∧ frameData (passed 0x42 0) = some (0x42 :: []) ∧
      malformed (passed 0x42 0).params (0x42 :: []) = false ∧
      classify (passed 0x42 0).params (0x42 :: []) = some ⟨false, .generic, false, 0x00⟩) ∧
    (receiving .checksum false false false 0 []).rxLen = 0 := by decide

/-- A type in the table, one outside it, a discovery response, and the frame ids of a table that is a finite map. -/
theorem witness_ClassifyFollowsTheTable :
    defaultParams.wf = true ∧ (0x88, ⟨"AT_COMMAND_RESPONSE", .generic, true, 5⟩) ∈ defaultParams.frameTypes ∧
    isDiscovery defaultParams 0x88 [0x88, 0x01, 0x4E, 0x44] = true ∧
    isDiscovery defaultParams 0x88 [0x88, 0x01, 0x4E, 0x49] = false ∧
    defaultParams.frameType 0x42 = none := by decide

/-- The least length the default discovery predicate accepts, one byte less, and another frame type. -/
theorem witness_DefaultFrameTypes :
    isDiscovery defaultParams 0x88 [0x88, 0x00, 0x4E, 0x44] = true ∧
    isDiscovery defaultParams 0x88 [0x88, 0x00, 0x4E] = false ∧
    isDiscovery defaultParams 0x97 [0x97, 0x00, 0x4E, 0x44] = false := by decide

theorem witness_UnknownTypesAreOfferedUnchanged :
    (passed 0x42 0).rxState = .checksum ∧ takesValue 0xBD (passed 0x42 0) ∧
    (passed 0x42 0).rxSum + valueByte 0xBD (passed 0x42 0) = 0xFF ∧ frameData (passed 0x42 0) = some (0x42 :: []) ∧
    (∀ e ∈ (passed 0x42 0).params.frameTypes, e.1 ≠ 0x42) ∧
    isDiscovery (passed 0x42 0).params 0x42 (0x42 :: []) = false := by decide

theorem witness_AcknowledgeDeliversTheFrame :
    (offered.rxState = .dispatch ∧ drecData offered = some [0x8A, 0x06]) ∧ seeking.rxState ≠ .dispatch := by decide

theorem witness_OneFrameOneOutcome :
    BlockInv (receiving .checksum false false false 2 [0x8A, 0x06]) ∧
    (receiving .checksum false false false 2 [0x8A, 0x06]).rxState = .checksum ∧
    takesValue 0x6F (receiving .checksum false false false 2 [0x8A, 0x06]) :=
  ⟨blockInv_checksum, by decide, by decide⟩

/-- An `Offer` open, acknowledged; and none open. -/
theorem witness_OffersAreDeliveredInOrder :
    (BlockInv offered ∧ decodeEvent .host 0x30000001 = .ok (.dispatchAck true) ∧ pairedUp offered.disp = true ∧
      offerOpen offered.disp = true ∧ ∃ t, exec (.dispatchAck true) offered = .next t) ∧
    (pairedUp (receiving .checksum false false false 2 [0x8A, 0x06]).disp = true ∧
      offerOpen (receiving .checksum false false false 2 [0x8A, 0x06]).disp = false ∧
      ∃ t, exec (.rxByte 0x6F) (receiving .checksum false false false 2 [0x8A, 0x06]) = .next t) :=
  ⟨⟨blockInv_offered, by decide, by decide, by decide, _, rfl⟩, by decide, by decide, _, rfl⟩

/-- The boundaries of the reserved addresses of `CSR_READ`. -/
theorem witness_CsrReadReturnsTheRegister :
    ∀ a ∈ [(0x0A : Byte), 0x0F, 0x15, 0xFF], 0x0A ≤ a ∧ a ≤ 0x0F ∨ 0x15 ≤ a := by decide

theorem witness_CsrWriteEffects :
    (Instr.csrWrite 0x02 0x0005).wf = true ∧ (Instr.csrWrite 0xFF 0x0000).wf = true := by decide

theorem witness_StartBeginsReceiving :
    State.reset.rxState = .idle ∧ (receiving .stopped false false false 5 [0x88]).rxState = .stopped ∧
      offered.rxState ≠ .idle ∧ offered.rxState ≠ .stopped := by decide

theorem witness_ResetValues :
    (∃ t, exec .softReset offered = .next t) ∧ (∀ a ∈ [(0x00 : Byte), 0x09, 0x10, 0x14], a ≤ 0x09 ∨ 0x10 ≤ a ∧ a ≤ 0x14) :=
  ⟨⟨_, rfl⟩, by decide⟩

/-- A raw `0x7E` as a value byte, and a `CSR_READ` of another register. -/
theorem witness_ModeIsReadOnlyAtFrameStarts :
    ((Instr.rxByte 0x7E).wf = true ∧ (receiving .payload true false false 2 [0x8A]).rxState ≠ .seek ∧
      (receiving .payload true false false 2 [0x8A]).rxLrsync = false) ∧
    Instr.csrRead 0x01 ≠ .csrRead 0x00 ∧ Instr.csrRead 0x01 ≠ .softReset := by decide

theorem witness_StickyFlagsDecideNothing : Instr.csrWriteStatus 0x00E0 ≠ .csrRead 0x01 := by decide

theorem witness_CountersCountEvents :
    (∃ t, Instr.rxByte 0x00 ≠ .softReset ∧ exec (.rxByte 0x00) { seeking with cntInvdelim := 0xFFFF } = .next t) ∧
    ∃ t, exec .softReset offered = .next t :=
  ⟨⟨_, by decide, rfl⟩, ⟨_, rfl⟩⟩

theorem witness_StreamsOnlyGrow : ∃ t, exec .softReset offered = .next t := ⟨_, rfl⟩

theorem witness_BufferReadsWhatWasWritten :
    Memory.wf [(0, 0x8A), (65534, 0x06)] = true ∧ (65534 : Nat) < 65535 ∧ (0 : Nat) ≠ 65534 := by decide

theorem witness_InvariantBoundsTheBuffer : BlockInv offered ∧ offered.rxState = .dispatch :=
  ⟨blockInv_offered, by decide⟩

theorem witness_StepRunsTheDecodedInstruction :
    (selectPort { seeking with transport := [0x1000007E, 0x00000000] } = some .transport ∧
      decodeEvent .transport 0x1000007E = .ok (.rxByte 0x7E)) ∧
    (selectPort { offered with transport := [0x1000007E], host := [0x30000000] } = some .host ∧
      decodeEvent .host 0x30000000 = .ok (.dispatchAck false)) := by decide

theorem witness_StepConsumesOneHead :
    (∃ t, step { seeking with transport := [0x1000007E] } = .next t) ∧
    ∃ t, step { offered with transport := [0x1000007E], host := [0x30000000] } = .next t :=
  ⟨⟨_, rfl⟩, ⟨_, rfl⟩⟩

theorem witness_EnabledHeadsAreServed :
    selectPort { seeking with transport := [0x1000007E] } = some .transport ∧
      selectPort { offered with transport := [0x1000007E] } = none := by decide

theorem witness_EveryStepKeepsTheInvariant :
    BlockInv offered ∧ ∃ t, step { offered with host := [0x30000000] } = .next t :=
  ⟨blockInv_offered, _, rfl⟩

/-- A run that goes on, and the two ways one ends. -/
theorem witness_RunsEndOnlyWhenNoHeadIsEnabled :
    BlockInv offered ∧ runEnded { offered with host := [0x30000000] } = false ∧ runEnded offered = true ∧
      runEnded { offered with transport := [0x1000007E] } = true :=
  ⟨blockInv_offered, by decide, by decide, by decide⟩

end Sys2Proof.Tests
end

section
/-! SUPPORT. The counters (spec/10_state.md R36): what each state change of the block adds to `EVT`, to `DISP` and to
the five counters, and the statement that every counter counts its events. -/

namespace Sys2Proof.Machine

/-- The part of the state that reports: the two streams and the counters of what is on them. -/
structure Tally where
  evt : List EvtRecord
  disp : List DispRecord
  frames : Half
  invdelim : Half
  incomplete : Half
  cksum : Half
  malformed : Half

/-- What a state has reported. -/
def tally (s : State) : Tally :=
  ⟨s.evt, s.disp, s.cntFrames, s.cntInvdelim, s.cntIncomplete, s.cntCksum, s.cntMalformed⟩

/-- A counter of the events of one code, after some events. -/
def countEvts (code : BitVec 4) (es : List EvtRecord) (n : Half) : Half :=
  n + BitVec.ofNat 16 (es.countP fun e => evtCode e == code)

/-- The counter of offered frames, after some `DISP` records. -/
def countOffers (rs : List DispRecord) (n : Half) : Half :=
  n + BitVec.ofNat 16 (offersOf rs).length

/-- What is reported after some events and records more, each counted. -/
def Tally.after (es : List EvtRecord) (rs : List DispRecord) (a : Tally) : Tally :=
  ⟨a.evt ++ es, a.disp ++ rs, countOffers rs a.frames, countEvts 1 es a.invdelim, countEvts 2 es a.incomplete,
    countEvts 3 es a.cksum, countEvts 4 es a.malformed⟩

/-! ### Counting -/

@[simp] theorem countEvts_nil (c : BitVec 4) (n : Half) : countEvts c [] n = n := by
  simp [countEvts]

@[simp] theorem countEvts_singleton (c : BitVec 4) (e : EvtRecord) (n : Half) :
    countEvts c [e] n = if evtCode e = c then n + 1 else n := by
  by_cases h : evtCode e = c <;> simp [countEvts, h]

theorem countEvts_append (c : BitVec 4) (es es' : List EvtRecord) (n : Half) :
    countEvts c (es ++ es') n = countEvts c es' (countEvts c es n) := by
  simp [countEvts, BitVec.ofNat_add, BitVec.add_assoc]

@[simp] theorem countOffers_nil (n : Half) : countOffers [] n = n := by
  simp [countOffers, offersOf]

@[simp] theorem countOffers_offer (r : OfferRec) (n : Half) : countOffers [.offer r] n = n + 1 := rfl

@[simp] theorem countOffers_deliver (r : OfferRec) (w l : Bool) (n : Half) : countOffers [.deliver r w l] n = n := by
  simp [countOffers, offersOf]

theorem countOffers_append (rs rs' : List DispRecord) (n : Half) :
    countOffers (rs ++ rs') n = countOffers rs' (countOffers rs n) := by
  simp [countOffers, offersOf, BitVec.ofNat_add, BitVec.add_assoc]

theorem Tally.after_nil (a : Tally) : a.after [] [] = a := by
  simp [Tally.after]

theorem Tally.after_after (a : Tally) (es es' : List EvtRecord) (rs rs' : List DispRecord) :
    (a.after es rs).after es' rs' = a.after (es ++ es') (rs ++ rs') := by
  simp [Tally.after, countEvts_append, countOffers_append]

/-! ### What each operation reports -/

theorem tally_raiseInvalidDelimiter (b : Byte) (s : State) :
    tally (raiseInvalidDelimiter b s) = (tally s).after [.invalidDelimiter b] [] := by
  simp [tally, Tally.after, raiseInvalidDelimiter, evtCode]

theorem tally_raiseIncompleteFrame (x : BodyState) (c : IncompleteCause) (s : State) :
    tally (raiseIncompleteFrame x c s) = (tally s).after [.incompleteFrame x s.rxEpend c] [] := by
  simp [tally, Tally.after, raiseIncompleteFrame, evtCode]

theorem tally_raiseChecksumError (v : Byte) (s : State) :
    tally (raiseChecksumError v s) = (tally s).after [.checksumError v (0xFF - s.rxSum) s.rxLen] [] := by
  simp [tally, Tally.after, raiseChecksumError, evtCode]

theorem tally_rejectFrame (p : Bool) (ft : Byte) (s : State) :
    tally (rejectFrame p ft s) = (tally s).after [.malformedPacket p ft s.rxLen] [] := by
  simp [tally, Tally.after, rejectFrame, raiseMalformedPacket, evtCode]

theorem tally_stopReceive (s : State) : tally (stopReceive s) = (tally s).after [.connectionLost] [] := by
  simp [tally, Tally.after, stopReceive, raiseConnectionLost, evtCode]

theorem tally_emitDeliver (r : OfferRec) (w l : Bool) (s : State) :
    tally (emitDisp (.deliver r w l) s) = (tally s).after [] [.deliver r w l] := by
  simp [tally, Tally.after]

theorem tally_offerFrame (ft : Byte) (d : List Byte) (s : State) :
    tally (offerFrame ft d s) = (tally s).after [] [.offer (offerOf (classifyAs s.params ft d) ft s.rxLen d)] := by
  simp [tally, Tally.after, offerFrame]

/-- A close inside a frame reports the incomplete frame, then the lost connection (R109). -/
theorem tally_closeFrame (x : BodyState) (s : State) :
    tally (closeFrame x s) = (tally s).after [.incompleteFrame x s.rxEpend .close, .connectionLost] [] :=
  calc tally (closeFrame x s)
    _ = (tally (raiseIncompleteFrame x .close s)).after [.connectionLost] [] := tally_stopReceive _
    _ = ((tally s).after [.incompleteFrame x s.rxEpend .close] []).after [.connectionLost] [] := by
      rw [tally_raiseIncompleteFrame]
    _ = _ := Tally.after_after _ _ _ _ _

/-- Storing a payload byte, or not storing it, reports nothing. -/
theorem tally_acceptPayload (v : Byte) (s : State) : tally (acceptPayload v s) = tally s := by
  unfold acceptPayload
  split <;> rfl

/-! ### What every instruction reports -/

/-- From `s` to `t` some events and records are appended, each counted, and nothing else is reported. -/
def Reported (s t : State) : Prop :=
  ∃ es rs, tally t = (tally s).after es rs

theorem reported_of_silent {s t : State} (h : tally t = tally s) : Reported s t :=
  ⟨[], [], h.trans (Tally.after_nil _).symm⟩

/-- Every state change but reset counts what it reports. The operations named around a report (`goto`, `openFrame`,
clearing `RX_EPEND`) leave the tally as it is. -/
theorem Effect.reported {i : Instr} {s t : State} (he : Effect i s t) (hi : i ≠ .softReset) : Reported s t := by
  cases he
  case skipped b _ => exact ⟨_, _, tally_raiseInvalidDelimiter b s⟩
  case resynced x _ _ _ _ => exact ⟨_, _, tally_raiseIncompleteFrame x .resync s⟩
  case failed v _ _ => exact ⟨_, _, tally_raiseChecksumError v { s with rxEpend := false }⟩
  case passedEmpty => exact ⟨_, _, tally_rejectFrame _ _ { s with rxEpend := false }⟩
  case passedShort => exact ⟨_, _, tally_rejectFrame _ _ { s with rxEpend := false }⟩
  case passed => exact ⟨_, _, tally_offerFrame _ _ { s with rxEpend := false }⟩
  case typeEmpty => exact ⟨_, _, tally_rejectFrame _ _ s⟩
  case typeShort => exact ⟨_, _, tally_rejectFrame _ _ s⟩
  case typeOffered => exact ⟨_, _, tally_offerFrame _ _ s⟩
  case stopped => exact ⟨_, _, tally_stopReceive s⟩
  case closed => exact ⟨_, _, tally_closeFrame _ s⟩
  case acked => exact ⟨_, _, tally_emitDeliver _ _ _ s⟩
  case stored v _ => exact reported_of_silent (tally_acceptPayload v { s with rxEpend := false })
  case reset h => exact absurd h hi
  all_goals exact reported_of_silent rfl

/-- Reset puts every counter at zero (R171). -/
theorem resetBlock_counters (s : State) :
    (resetBlock s).cntFrames = 0 ∧ (resetBlock s).cntInvdelim = 0 ∧ (resetBlock s).cntIncomplete = 0 ∧
      (resetBlock s).cntCksum = 0 ∧ (resetBlock s).cntMalformed = 0 :=
  ⟨rfl, rfl, rfl, rfl, rfl⟩

/-- Settles O46: every state change but reset counts what it reports, and reset clears the counters. -/
theorem countersCountEvents : Obligations.CountersCountEvents := by
  unfold Obligations.CountersCountEvents
  constructor
  · intro i s t hi h
    obtain ⟨es, rs, ht⟩ := (exec_effect h).reported hi
    simp only [tally, Tally.after, Tally.mk.injEq] at ht
    exact ⟨es, rs, ht⟩
  · intro s t h
    cases h
    exact resetBlock_counters s

end Sys2Proof.Machine
end

section
/-! SUPPORT. The non-escaped frame (spec/30_encoding.md R60): escaping without the mode, the two length bytes as numbers,
and the frame written out field by field. -/

namespace Sys2Proof.Machine

@[simp] theorem escByte_false (v : Byte) : escByte v false = [v] := by
  simp [escByte]

/-- Outside escaped mode nothing is escaped (R81). -/
@[simp] theorem escape_false (s : List Byte) : escape s false = s := by
  induction s with
  | nil => rfl
  | cons v t ih => simp [escape, ih]

theorem hiByte_ofNat (n : Nat) : hiByte (BitVec.ofNat 16 n) = BitVec.ofNat 8 (n / 256) := by
  apply BitVec.eq_of_toNat_eq
  simp only [hiByte, BitVec.extractLsb'_toNat, BitVec.toNat_ofNat, Nat.shiftRight_eq_div_pow]
  omega

theorem loByte_ofNat (n : Nat) : loByte (BitVec.ofNat 16 n) = BitVec.ofNat 8 n := by
  apply BitVec.eq_of_toNat_eq
  simp only [loByte, BitVec.extractLsb'_toNat, BitVec.toNat_ofNat, Nat.shiftRight_zero]
  omega

/-- The big-endian bytes of a length, the high byte first (R88). -/
theorem be16_ofNat (n : Nat) : be16 (BitVec.ofNat 16 n) = [BitVec.ofNat 8 (n / 256), BitVec.ofNat 8 n] := by
  rw [be16, hiByte_ofNat, loByte_ofNat]

/-- The non-escaped frame, field by field in the order of R60's table. -/
theorem frame_false (d : List Byte) :
    frame d false = 0x7E :: BitVec.ofNat 8 (d.length / 256) :: BitVec.ofNat 8 d.length :: (d ++ [cksum d]) := by
  rw [frame, escape_false, be16_ofNat]
  rfl

/-- What stands from offset 3 of the non-escaped frame: the frame data and then the checksum (R60). -/
theorem frame_false_getElem?_body (d : List Byte) (i : Nat) :
    (frame d false)[3 + i]? = (d ++ [cksum d])[i]? := by
  rw [frame_false, Nat.add_comm]
  rfl

/-- Settles O9: the header fields and the length are read off the written-out frame, the data bytes and the checksum off
what stands from offset 3. The format holds for every length; the bound on it says when the length field is exact. -/
theorem plainFrameFormat : Obligations.PlainFrameFormat := by
  unfold Obligations.PlainFrameFormat
  intro d _
  have hlength : (frame d false).length = d.length + 4 := by simp [frame_false]
  have hdata : ∀ i < d.length, (frame d false)[3 + i]? = d[i]? := fun i hi => by
    rw [frame_false_getElem?_body, List.getElem?_append_left hi]
  have hcksum : (frame d false)[3 + d.length]? = some (cksum d) := by
    rw [frame_false_getElem?_body, List.getElem?_concat_length]
  refine ⟨hlength, ?delim, ?hi, ?lo, hdata, hcksum⟩
  all_goals rw [frame_false]; rfl

end Sys2Proof.Machine
end

section
/-! SUPPORT. The escape laws (spec/40_bytecodec.md R84): what the escape of one byte can be, how unescaping reads it
back, and which bytes stand in an escaped sequence. -/

namespace Sys2Proof.Machine

/-- The second bytes of the four escape pairs (R80). -/
def escSeconds : List Byte := [0x5E, 0x5D, 0x31, 0x33]

theorem xor_escMask_mem_escSeconds : ∀ v ∈ Config.escSet, v ^^^ Config.escMask ∈ escSeconds := by decide

/-- What is written for one byte in escaped mode: an escape pair, or the byte itself when it needs none (R80). -/
theorem escByte_true_cases (v : Byte) :
    (escByte v true = [Config.esc, v ^^^ Config.escMask] ∧ v ^^^ Config.escMask ∈ escSeconds) ∨
    (escByte v true = [v] ∧ v ∉ Config.escSet) := by
  by_cases hv : v ∈ Config.escSet
  · exact .inl ⟨by simp [escByte, hv], xor_escMask_mem_escSeconds v hv⟩
  · exact .inr ⟨by simp [escByte, hv], hv⟩

/-! ### Unescaping what was escaped -/

theorem unescape_esc_cons_cons (x : Byte) (t : List Byte) :
    unescape (Config.esc :: x :: t) true = (unescape t true).map ((x ^^^ Config.escMask) :: ·) := by
  simp [unescape]

/-- A byte that opens no escape pair is taken as it is (R82). -/
theorem unescape_cons {v : Byte} {e : Bool} (h : ¬(e = true ∧ v = Config.esc)) (t : List Byte) :
    unescape (v :: t) e = (unescape t e).map (v :: ·) := by
  cases t with
  | nil => simp [unescape, h]
  | cons x t => rw [unescape, if_neg h]

/-- One escaped byte at the front is read back as that byte: the mask cancels itself in a pair, and a byte outside
`ESC_SET` is no escape byte. -/
theorem unescape_escByte_append (v : Byte) (e : Bool) (t : List Byte) :
    unescape (escByte v e ++ t) e = (unescape t e).map (v :: ·) := by
  cases e with
  | false => exact escByte_false v ▸ unescape_cons (by simp) t
  | true =>
    obtain ⟨hw, -⟩ | ⟨hw, hv⟩ := escByte_true_cases v
    · calc unescape (escByte v true ++ t) true
        _ = (unescape t true).map ((v ^^^ Config.escMask ^^^ Config.escMask) :: ·) := by
          rw [hw]; exact unescape_esc_cons_cons _ t
        _ = (unescape t true).map (v :: ·) := by rw [BitVec.xor_assoc, BitVec.xor_self, BitVec.xor_zero]
    · have hesc : v ≠ Config.esc := fun h => hv (h ▸ by decide)
      rw [hw]
      exact unescape_cons (fun h => hesc h.2) t

theorem unescape_escape (s : List Byte) (e : Bool) : unescape (escape s e) e = some s := by
  induction s with
  | nil => rfl
  | cons v t ih => rw [escape, unescape_escByte_append, ih]; rfl

theorem escape_injective (e : Bool) : Function.Injective (escape · e) := fun s t h =>
  Option.some.inj <| by rw [← unescape_escape s e, ← unescape_escape t e, show escape s e = escape t e from h]

/-! ### The bytes of an escaped sequence -/

theorem mem_escape {b : Byte} {s : List Byte} {e : Bool} : b ∈ escape s e ↔ ∃ v ∈ s, b ∈ escByte v e := by
  induction s with
  | nil => simp [escape]
  | cons v t ih => simp [escape, ih]

/-- `0x7E`, `0x11` and `0x13` are in `ESC_SET`, and neither the escape byte nor the second of a pair is one of them. -/
theorem escape_true_noSpecial {s : List Byte} {b : Byte} (hb : b ∈ escape s true) :
    b ≠ 0x7E ∧ b ≠ 0x11 ∧ b ≠ 0x13 := by
  have hpair : ∀ x ∈ Config.esc :: escSeconds, x ≠ 0x7E ∧ x ≠ 0x11 ∧ x ≠ 0x13 := by decide
  obtain ⟨v, -, hbv⟩ := mem_escape.mp hb
  obtain ⟨hw, hx⟩ | ⟨hw, hv⟩ := escByte_true_cases v
  · rcases List.mem_pair.mp (hw ▸ hbv) with rfl | rfl
    · exact hpair _ List.mem_cons_self
    · exact hpair _ (List.mem_cons_of_mem _ hx)
  · obtain rfl := List.mem_singleton.mp (hw ▸ hbv)
    refine ⟨?_, ?_, ?_⟩ <;> exact fun h => hv (h ▸ by decide)

/-- An escape byte in an escaped sequence is the first of a pair: the second of a pair is none, and a byte that stands
for itself is none. -/
theorem escape_true_followed (s : List Byte) (i : Nat) (h : (escape s true)[i]? = some Config.esc) :
    ∃ x ∈ escSeconds, (escape s true)[i + 1]? = some x := by
  induction s generalizing i with
  | nil => cases h
  | cons v t ih =>
    rw [escape] at h ⊢
    obtain ⟨hw, hx⟩ | ⟨hw, hv⟩ := escByte_true_cases v <;> rw [hw] at h ⊢
    · match i with
      | 0 => exact ⟨_, hx, rfl⟩
      | 1 =>
        have hesc : v ^^^ Config.escMask = Config.esc := Option.some.inj h
        exact absurd (hesc ▸ hx) (by decide)
      | i + 2 => exact ih i h
    · match i with
      | 0 =>
        have hesc : v = Config.esc := Option.some.inj h
        exact absurd (by decide) (hesc ▸ hv)
      | i + 1 => exact ih i h

/-- After the delimiter a frame in escaped mode is an escaped sequence, which holds no `0x7E` (R84, law 3). -/
theorem frame_true_delim_iff (d : List Byte) (i : Nat) : (frame d true)[i]? = some 0x7E ↔ i = 0 := by
  cases i with
  | zero => exact ⟨fun _ => rfl, fun _ => rfl⟩
  | succ i =>
    have hno : (frame d true)[i + 1]? ≠ some 0x7E := fun h =>
      (escape_true_noSpecial (List.mem_of_getElem? h)).1 rfl
    exact ⟨fun h => absurd h hno, fun h => absurd h (Nat.succ_ne_zero i)⟩

/-- Settles O7: unescaping inverts escaping, so escaping is injective; and what each byte is escaped to gives the bytes
of an escaped sequence, of which a frame in escaped mode is one after its delimiter. -/
theorem escapeLaws : Obligations.EscapeLaws := by
  unfold Obligations.EscapeLaws
  exact ⟨unescape_escape, fun s => ⟨fun _ => escape_true_noSpecial, escape_true_followed s⟩,
    fun d _ => frame_true_delim_iff d, fun _ _ e h => escape_injective e h⟩

end Sys2Proof.Machine
end

section
/-! SUPPORT. The checksum laws (spec/40_bytecodec.md R85 to R87): `SUM8` is the sum of the list in the ring of bytes,
and `VERIFY` depends on the sum of data and checksum only. -/

namespace Sys2Proof.Machine

theorem sum8_eq_sum (d : List Byte) : sum8 d = d.sum := by
  induction d with
  | nil => rfl
  | cons b t ih => rw [sum8, ih, List.sum_cons]

theorem sum8_append (a b : List Byte) : sum8 (a ++ b) = sum8 a + sum8 b := by
  simp only [sum8_eq_sum, List.sum_append]

theorem sum8_perm {d d' : List Byte} (h : d.Perm d') : sum8 d = sum8 d' := by
  rw [sum8_eq_sum, sum8_eq_sum, h.sum_eq]

theorem sum8_append_cons (a b : List Byte) (x : Byte) : sum8 (a ++ x :: b) = sum8 a + (x + sum8 b) :=
  sum8_append a (x :: b)

/-- One byte of the data is fixed by the sum and the other bytes. -/
theorem sum8_append_cons_inj {a b : List Byte} {x y : Byte} :
    sum8 (a ++ x :: b) = sum8 (a ++ y :: b) ↔ x = y := by
  rw [sum8_append_cons, sum8_append_cons, add_right_inj, add_left_inj]

theorem verify_iff {d : List Byte} {c : Byte} : verify d c = true ↔ sum8 d + c = 0xFF :=
  beq_iff_eq

/-- The generated checksum is the one that verifies (R87). -/
theorem verify_iff_eq_cksum (d : List Byte) (c : Byte) : verify d c = true ↔ c = cksum d := by
  rw [verify_iff, cksum, eq_sub_iff_add_eq']

/-- The verdict depends on the data and the checksum only through the sum of all of them. -/
theorem verify_congr {d d' : List Byte} {c c' : Byte} (h : sum8 d + c = sum8 d' + c') :
    verify d c = verify d' c' := by
  rw [verify, verify, h]

/-- A change of the whole sum is detected. -/
theorem verify_eq_false_of_ne {d d' : List Byte} {c c' : Byte} (h : sum8 d + c ≠ sum8 d' + c')
    (hv : verify d c = true) : verify d' c' = false :=
  Bool.eq_false_iff.mpr fun hv' => h ((verify_iff.mp hv).trans (verify_iff.mp hv').symm)

/-! ### Changes that are detected -/

theorem verify_detects_dataChange (a b : List Byte) (x y c : Byte) (hxy : x ≠ y) :
    verify (a ++ x :: b) c = true → verify (a ++ y :: b) c = false :=
  verify_eq_false_of_ne fun h => hxy (sum8_append_cons_inj.mp (add_right_cancel h))

theorem verify_detects_checksumChange (d : List Byte) (c c' : Byte) (hc : c ≠ c') :
    verify d c = true → verify d c' = false :=
  verify_eq_false_of_ne fun h => hc (add_left_cancel h)

/-! ### Changes that are not detected -/

theorem verify_cancel_inData (a b t : List Byte) (x y k c : Byte) :
    verify (a ++ x :: b ++ y :: t) c = verify (a ++ (x + k) :: b ++ (y - k) :: t) c :=
  verify_congr (by simp only [sum8_append_cons]; ring)

theorem verify_cancel_inChecksum (a b : List Byte) (x k c : Byte) :
    verify (a ++ x :: b) c = verify (a ++ (x + k) :: b) (c - k) :=
  verify_congr (by simp only [sum8_append_cons]; ring)

theorem verify_perm {d d' : List Byte} (c : Byte) (h : d.Perm d') : verify d c = verify d' c :=
  verify_congr (by rw [sum8_perm h])

/-- Settles O8: each law follows from what the change does to the sum of data and checksum. -/
theorem checksumLaws : Obligations.ChecksumLaws := by
  unfold Obligations.ChecksumLaws
  exact ⟨verify_iff_eq_cksum, sum8_append, verify_detects_dataChange, verify_detects_checksumChange,
    verify_cancel_inData, verify_cancel_inChecksum, fun _ _ c => verify_perm c⟩

end Sys2Proof.Machine
end

section
/-! SUPPORT. The events of the transmit framer (spec/41_tx_framer.md R95, R96): what `TX_START` and `TX_DATA` do in each
`TX_STATE`, and the bytes they emit as one escaped sequence. -/

namespace Sys2Proof.Machine

theorem escape_append (a b : List Byte) (e : Bool) : escape (a ++ b) e = escape a e ++ escape b e := by
  induction a with
  | nil => rfl
  | cons v t ih => rw [List.cons_append, escape, escape, ih, List.append_assoc]

theorem escape_singleton (v : Byte) (e : Bool) : escape [v] e = escByte v e :=
  List.append_nil _

/-- The header of a frame, and the checksum when the frame is empty, are one escaped sequence after the delimiter. -/
theorem openTxFrame_eq (len : Half) (s : State) :
    openTxFrame len s =
      { s with
        txLesc := s.ctrlEsc
        txSum := 0
        txRem := len
        txState := if len = 0 then .tIdle else .tPayload
        txo := s.txo ++ (0x7E : Byte) :: escape (be16 len ++ if len = 0 then [0xFF] else []) s.ctrlEsc } := by
  by_cases h : len = 0
  · simp only [openTxFrame, if_pos h]
    simp [emitTxo, Config.delim, be16, escape]
  · simp only [openTxFrame, if_neg h]
    simp [emitTxo, Config.delim, be16, escape]

/-- The counter reaches 0 exactly at the last byte, and the byte and the checksum are then one escaped sequence. -/
theorem sendTxByte_eq (b : Byte) (s : State) :
    sendTxByte b s =
      { s with
        txSum := s.txSum + b
        txRem := s.txRem - 1
        txState := if s.txRem = 1 then .tIdle else s.txState
        txo := s.txo ++ escape (if s.txRem = 1 then [b, 0xFF - (s.txSum + b)] else [b]) s.txLesc } := by
  have hlast : s.txRem - 1 = 0 ↔ s.txRem = 1 := sub_eq_zero
  by_cases h : s.txRem = 1
  · simp only [sendTxByte, if_pos h, if_pos (hlast.mpr h)]
    simp [emitTxo, escape]
  · simp only [sendTxByte, if_neg h, if_neg (mt hlast.mp h)]
    simp [emitTxo, escape]

theorem exec_txStart_idle (len : Half) {s : State} (h : s.txState = .tIdle) :
    exec (.txStart len) s = .next (openTxFrame len s) :=
  (execTxStart_eq len s).trans (by rw [if_neg (by simp [h])])

theorem exec_txStart_open (len : Half) {s : State} (h : s.txState = .tPayload) :
    exec (.txStart len) s = .next (setTxerr s) :=
  (execTxStart_eq len s).trans (by rw [if_pos h])

theorem exec_txData_idle (b : Byte) {s : State} (h : s.txState = .tIdle) :
    exec (.txData b) s = .next (setTxerr s) :=
  (execTxData_eq b s).trans (by rw [if_pos h])

theorem exec_txData_open (b : Byte) {s : State} (h : s.txState = .tPayload) :
    exec (.txData b) s = .next (sendTxByte b s) :=
  (execTxData_eq b s).trans (by rw [if_neg (by simp [h])])

/-- Settles O13: the word is the encoding of `TX_START`; an open frame refuses it, else it opens one. -/
theorem txStartOpensAFrame : Obligations.TxStartOpensAFrame := by
  unfold Obligations.TxStartOpensAFrame
  intro len s
  refine ⟨Laws.RoundTrip.txStart len rfl, exec_txStart_open len, fun hidle => ?_⟩
  rw [exec_txStart_idle len hidle, openTxFrame_eq]

/-- Settles O14: the word is the encoding of `TX_DATA`; without an open frame it is refused, else the byte is sent. -/
theorem txDataSendsAByte : Obligations.TxDataSendsAByte := by
  unfold Obligations.TxDataSendsAByte
  intro b s
  refine ⟨Laws.RoundTrip.txData b rfl, exec_txData_idle b, fun hopen => ?_⟩
  rw [exec_txData_open b hopen, sendTxByte_eq, hopen]

end Sys2Proof.Machine
end

section
/-! SUPPORT. A whole transmit frame (spec/41_tx_framer.md R97): what an instruction can do to an open frame, what a run
that leaves the frame open has sent, and the bytes from `TX_START` to the last `TX_DATA` as the reference frame. -/

namespace Sys2Proof.Machine

/-! ### What an instruction does to an open transmit frame -/

theorem acceptPayload_transmit (v : Byte) (s : State) :
    txRegs (acceptPayload v s) = txRegs s ∧ (acceptPayload v s).txo = s.txo := by
  unfold acceptPayload
  split <;> exact ⟨rfl, rfl⟩

/-- Only the two framer events and reset touch the transmit registers or `TXO`. -/
theorem Effect.transmit {i : Instr} {s t : State} (he : Effect i s t) :
    (∃ l, i = .txStart l ∧ s.txState = .tIdle) ∨
    (∃ b, i = .txData b ∧ s.txState = .tPayload) ∨
    (i = .softReset ∧ t = resetBlock s) ∨
    (txRegs t = txRegs s ∧ t.txo = s.txo) := by
  cases he
  case txOpened l hi h => exact .inl ⟨l, hi, h⟩
  case txSent b hi h => exact .inr (.inl ⟨b, hi, h⟩)
  case reset hi => exact .inr (.inr (.inl ⟨hi, rfl⟩))
  case stored v _ => exact .inr (.inr (.inr (acceptPayload_transmit v { s with rxEpend := false })))
  all_goals exact .inr (.inr (.inr ⟨rfl, rfl⟩))

/-- The byte an instruction hands to the framer. -/
def txDataOf : Instr → Option Byte
  | .txData b => some b
  | _ => none

theorem txDataOf_eq_none {i : Instr} (h : ∀ b, i ≠ .txData b) : txDataOf i = none := by
  cases i with
  | txData b => exact absurd rfl (h b)
  | _ => rfl

/-- While a frame is open an instruction sends a byte of it, resets the block, or leaves the framer alone. -/
theorem exec_open_cases {i : Instr} {s t : State} (hopen : s.txState = .tPayload) (h : exec i s = .next t) :
    (∃ b, i = .txData b ∧ t = sendTxByte b s) ∨
    (i = .softReset ∧ t = resetBlock s) ∨
    (txDataOf i = none ∧ txRegs t = txRegs s ∧ t.txo = s.txo) := by
  by_cases hdata : ∃ b, i = .txData b
  · obtain ⟨b, rfl⟩ := hdata
    rw [exec_txData_open b hopen] at h
    cases h
    exact .inl ⟨b, rfl, rfl⟩
  · obtain ⟨_, _, hidle⟩ | ⟨b, hi, _⟩ | hreset | hkept := (exec_effect h).transmit
    · simp [hopen] at hidle
    · exact absurd ⟨b, hi⟩ hdata
    · exact .inr (.inl hreset)
    · exact .inr (.inr ⟨txDataOf_eq_none fun b hi => hdata ⟨b, hi⟩, hkept⟩)

/-! ### What a run sends while the frame stays open -/

/-- From `s` to `t` the frame open in `s` has sent some bytes and is still open. -/
structure Sent (bs : List Byte) (s t : State) : Prop where
  isOpen : t.txState = .tPayload
  lesc : t.txLesc = s.txLesc
  rem : t.txRem.toNat + bs.length = s.txRem.toNat
  sum : t.txSum = s.txSum + sum8 bs
  txo : t.txo = s.txo ++ escape bs s.txLesc

theorem Sent.nil {s t : State} (hopen : s.txState = .tPayload) (hregs : txRegs t = txRegs s) (htxo : t.txo = s.txo) :
    Sent [] s t := by
  simp only [txRegs, TxRegs.mk.injEq] at hregs
  obtain ⟨hstate, hlesc, hrem, hsum⟩ := hregs
  exact ⟨hstate.trans hopen, hlesc, by simp [hrem], by simp [hsum, sum8], by simp [htxo, escape]⟩

/-- A byte that is not the last one leaves the frame open. -/
theorem Sent.byte {s : State} (b : Byte) (hopen : s.txState = .tPayload) (hrem : 1 < s.txRem.toNat) :
    Sent [b] s (sendTxByte b s) := by
  have hlast : s.txRem ≠ 1 := fun h => absurd hrem (h ▸ by decide)
  have hdec : (s.txRem - 1).toNat + 1 = s.txRem.toNat := by bv_omega
  rw [sendTxByte_eq, if_neg hlast, if_neg hlast]
  exact ⟨hopen, rfl, hdec, by simp [sum8], rfl⟩

theorem Sent.append {bs cs : List Byte} {s t u : State} (h : Sent bs s t) (h' : Sent cs t u) :
    Sent (bs ++ cs) s u where
  isOpen := h'.isOpen
  lesc := h'.lesc.trans h.lesc
  rem := by rw [List.length_append, ← h.rem, ← h'.rem]; omega
  sum := by rw [h'.sum, h.sum, sum8_append, add_assoc]
  txo := by rw [h'.txo, h.txo, h.lesc, escape_append, List.append_assoc]

theorem sent_of_exec {i : Instr} {s t : State} (hopen : s.txState = .tPayload) (hi : i ≠ .softReset)
    (hrem : (txDataOf i).toList.length < s.txRem.toNat) (h : exec i s = .next t) : Sent (txDataOf i).toList s t := by
  obtain ⟨b, rfl, rfl⟩ | ⟨hreset, _⟩ | ⟨hnone, hregs, htxo⟩ := exec_open_cases hopen h
  · exact .byte b hopen hrem
  · exact absurd hreset hi
  · rw [hnone]; exact .nil hopen hregs htxo

/-- The bytes a run hands to the framer. -/
def txDataBytes (is : List Instr) : List Byte := is.filterMap txDataOf

theorem txDataBytes_cons (i : Instr) (is : List Instr) :
    txDataBytes (i :: is) = (txDataOf i).toList ++ txDataBytes is := by
  cases h : txDataOf i <;> simp [txDataBytes, h]

theorem txDataBytes_append_txData (is : List Instr) (b : Byte) :
    txDataBytes (is ++ [.txData b]) = txDataBytes is ++ [b] :=
  List.filterMap_append

theorem txDataBytes_map_txData (d : List Byte) : txDataBytes (d.map .txData) = d :=
  (List.filterMap_map ..).trans List.filterMap_some

theorem runInstrs_cons_eq_next {i : Instr} {is : List Instr} {s t : State} :
    runInstrs (i :: is) s = .next t ↔ ∃ u, exec i s = .next u ∧ runInstrs is u = .next t := by
  rw [runInstrs]
  cases exec i s <;> simp

theorem runInstrs_append_eq_next {is js : List Instr} {s t : State} :
    runInstrs (is ++ js) s = .next t ↔ ∃ u, runInstrs is s = .next u ∧ runInstrs js u = .next t := by
  induction is generalizing s with
  | nil => simp [runInstrs]
  | cons i is ih =>
    simp only [List.cons_append, runInstrs_cons_eq_next, ih]
    exact ⟨fun ⟨v, hv, u, hu, ht⟩ => ⟨u, ⟨v, hv, hu⟩, ht⟩, fun ⟨u, ⟨v, hv, hu⟩, ht⟩ => ⟨v, hv, u, hu, ht⟩⟩

/-- A run without reset that hands fewer bytes to the framer than the open frame still takes sends just those bytes. -/
theorem sent_of_runInstrs {is : List Instr} {s t : State} (hopen : s.txState = .tPayload) (hreset : .softReset ∉ is)
    (hrem : (txDataBytes is).length < s.txRem.toNat) (h : runInstrs is s = .next t) : Sent (txDataBytes is) s t := by
  induction is generalizing s with
  | nil => cases h; exact .nil hopen rfl rfl
  | cons i is ih =>
    obtain ⟨hi, his⟩ := List.ne_and_not_mem_of_not_mem_cons hreset
    obtain ⟨u, hu, ht⟩ := runInstrs_cons_eq_next.mp h
    rw [txDataBytes_cons, List.length_append] at hrem
    have hhead : Sent (txDataOf i).toList s u := sent_of_exec hopen hi.symm (by omega) hu
    have htail : Sent (txDataBytes is) u t := ih hhead.isOpen his (by have := hhead.rem; omega) ht
    rw [txDataBytes_cons]
    exact hhead.append htail

/-! ### From `TX_START` to the last byte -/

/-- The last byte of an open frame closes it, and the checksum is that of all the bytes sent (R96). -/
theorem sendTxByte_last {bs : List Byte} {s t : State} (b : Byte) (h : Sent bs s t)
    (hrem : s.txRem.toNat = bs.length + 1) (hsum : s.txSum = 0) :
    (sendTxByte b t).txo = s.txo ++ escape (bs ++ [b] ++ [cksum (bs ++ [b])]) s.txLesc ∧
      (sendTxByte b t).txState = .tIdle := by
  have hlast : t.txRem = 1 := BitVec.eq_of_toNat_eq (show t.txRem.toNat = 1 by have := h.rem; omega)
  have hcksum : 0xFF - (t.txSum + b) = cksum (bs ++ [b]) := by
    rw [cksum, h.sum, hsum, sum8_append]; simp [sum8]
  have hbytes : bs ++ [b] ++ [cksum (bs ++ [b])] = bs ++ [b, cksum (bs ++ [b])] := by simp
  rw [sendTxByte_eq, if_pos hlast, if_pos hlast, hcksum, hbytes, escape_append, ← List.append_assoc, ← h.txo, ← h.lesc]
  exact ⟨rfl, rfl⟩

/-- An empty frame is whole at its `TX_START` (R95). -/
theorem openTxFrame_empty (s : State) :
    (openTxFrame 0 s).txo = s.txo ++ frame [] s.ctrlEsc ∧ (openTxFrame 0 s).txState = .tIdle := by
  rw [openTxFrame_eq]
  exact ⟨rfl, rfl⟩

theorem openTxFrame_of_ne {len : Half} (h : len ≠ 0) (s : State) :
    (openTxFrame len s).txState = .tPayload ∧
      (openTxFrame len s).txo = s.txo ++ (0x7E : Byte) :: escape (be16 len) s.ctrlEsc := by
  rw [openTxFrame_eq, if_neg h, if_neg h, List.append_nil]
  exact ⟨rfl, rfl⟩

/-- The length field of a frame that has a last byte, after some others. -/
theorem txLength_toNat {bs : List Byte} (b : Byte) (hlen : (bs ++ [b]).length ≤ 65535) :
    (BitVec.ofNat 16 (bs ++ [b]).length).toNat = bs.length + 1 := by
  rw [List.length_append, List.length_singleton] at hlen ⊢
  exact Nat.mod_eq_of_lt (by omega)

theorem txLength_ne_zero {bs : List Byte} (b : Byte) (hlen : (bs ++ [b]).length ≤ 65535) :
    BitVec.ofNat 16 (bs ++ [b]).length ≠ 0 := fun h0 =>
  absurd ((txLength_toNat b hlen).symm.trans (congrArg BitVec.toNat h0)) (Nat.succ_ne_zero _)

/-- `TX_START`, a run that hands over all bytes but the last, and the last byte emit the reference frame. -/
theorem sendTxByte_completes_frame {bs : List Byte} {s t : State} (b : Byte) (hlen : (bs ++ [b]).length ≤ 65535)
    (h : Sent bs (openTxFrame (BitVec.ofNat 16 (bs ++ [b]).length) s) t) :
    (sendTxByte b t).txo = s.txo ++ frame (bs ++ [b]) s.ctrlEsc ∧ (sendTxByte b t).txState = .tIdle := by
  obtain ⟨htxo, hidle⟩ := sendTxByte_last b h (txLength_toNat b hlen) rfl
  obtain ⟨_, hheader⟩ := openTxFrame_of_ne (txLength_ne_zero b hlen) s
  refine ⟨?_, hidle⟩
  rw [htxo, hheader, frame, List.append_assoc (be16 _), escape_append (be16 _), List.append_assoc]
  rfl

/-- A run from `T_IDLE` of `TX_START` and events that hand over as many bytes, the last event being the last of them. -/
theorem txFrame_of_runInstrs {is : List Instr} {s t : State} (hlen : (txDataBytes is).length ≤ 65535)
    (hidle : s.txState = .tIdle) (hreset : .softReset ∉ is) (hlast : is = [] ∨ ∃ b, is.getLast? = some (.txData b))
    (h : runInstrs (.txStart (BitVec.ofNat 16 (txDataBytes is).length) :: is) s = .next t) :
    t.txo = s.txo ++ frame (txDataBytes is) s.ctrlEsc ∧ t.txState = .tIdle := by
  obtain ⟨u, hu, ht⟩ := runInstrs_cons_eq_next.mp h
  rw [exec_txStart_idle _ hidle] at hu
  cases hu
  obtain rfl | ⟨b, hb⟩ := hlast
  · cases ht
    exact openTxFrame_empty s
  · obtain ⟨js, rfl⟩ := List.getLast?_eq_some_iff.mp hb
    rw [txDataBytes_append_txData] at hlen ht ⊢
    obtain ⟨v, hv, hlastRun⟩ := runInstrs_append_eq_next.mp ht
    obtain ⟨w, hw, hnil⟩ := runInstrs_cons_eq_next.mp hlastRun
    cases hnil
    have hrem := txLength_toNat b hlen
    obtain ⟨hopen, _⟩ := openTxFrame_of_ne (txLength_ne_zero b hlen) s
    have hjs : .softReset ∉ js := fun hmem => hreset (List.mem_append_left _ hmem)
    have hsent := sent_of_runInstrs hopen hjs (Nat.lt_of_lt_of_eq (Nat.lt_succ_self _) hrem.symm) hv
    rw [exec_txData_open b hsent.isOpen] at hw
    cases hw
    exact sendTxByte_completes_frame b hlen hsent

/-! ### `SEND` alone -/

theorem exec_txData_completes (b : Byte) (s : State) : ∃ t, exec (.txData b) s = .next t :=
  ⟨_, execTxData_eq b s⟩

theorem runInstrs_map_txData_completes (d : List Byte) (s : State) : ∃ t, runInstrs (d.map .txData) s = .next t := by
  induction d generalizing s with
  | nil => exact ⟨s, rfl⟩
  | cons b d ih =>
    obtain ⟨u, hu⟩ := exec_txData_completes b s
    obtain ⟨t, ht⟩ := ih u
    exact ⟨t, runInstrs_cons_eq_next.mpr ⟨u, hu, ht⟩⟩

theorem sendFrame_completes (d : List Byte) (s : State) : ∃ t, runInstrs (sendFrame d) s = .next t := by
  obtain ⟨t, ht⟩ := runInstrs_map_txData_completes d _
  exact ⟨t, runInstrs_cons_eq_next.mpr ⟨_, execTxStart_eq _ s, ht⟩⟩

theorem getLast?_map_txData (d : List Byte) :
    d.map Instr.txData = [] ∨ ∃ b, (d.map Instr.txData).getLast? = some (.txData b) := by
  cases h : d.getLast? with
  | none => exact .inl (by simp [List.getLast?_eq_none_iff.mp h])
  | some b => exact .inr ⟨b, by simp [h]⟩

/-- Settles O15: a run from `TX_START` to the last byte splits at that byte; before it the frame stays open and sends
what it is handed, whatever else is run, and `SEND` is such a run, whose two events always complete. -/
theorem framerEmitsTheReferenceFrame : Obligations.FramerEmitsTheReferenceFrame := by
  unfold Obligations.FramerEmitsTheReferenceFrame
  constructor
  · intro d is s t hlen hidle hreset hd hlast h
    have hbytes : txDataBytes is = d := hd
    subst hbytes
    exact txFrame_of_runInstrs hlen hidle hreset hlast h
  · intro d s hlen hidle
    obtain ⟨t, ht⟩ := sendFrame_completes d s
    have hframe := txFrame_of_runInstrs (is := d.map .txData) (s := s) (t := t)
    rw [txDataBytes_map_txData] at hframe
    exact ⟨t, ht, hframe hlen hidle (by simp) (getLast?_map_txData d) ht⟩

end Sys2Proof.Machine
end

section
/-! SUPPORT. The independence of the transmit side (spec/41_tx_framer.md R98): the meanings of the receive side commute
with a change of the transmit registers, and the framer's with a change of `RX_STATE`. -/

namespace Sys2Proof.Machine

/-! ### The receive side commutes with a change of the transmit registers -/

/-- A meaning commutes with a change of the state: the change may be made before it or after it. -/
def Commutes (f : State → State) (m : State → Outcome) : Prop :=
  ∀ s, m (f s) = mapNext f (m s)

/-- A case distinction on what the change leaves alone. -/
theorem Commutes.ite {f : State → State} {m n : State → Outcome} {p : State → Prop} [DecidablePred p]
    (hp : ∀ s, p (f s) ↔ p s) (hm : Commutes f m) (hn : Commutes f n) :
    Commutes f fun s => if p s then m s else n s := by
  intro s
  by_cases h : p s
  · simp only [if_pos h, if_pos ((hp s).mpr h), hm s]
  · simp only [if_neg h, if_neg (mt (hp s).mp h), hn s]

/-- The receive side commutes with what leaves `RX_STATE` alone, if what it does in `SEEK` and in a body state does. -/
theorem Commutes.receive {f : State → State} {g : State → Outcome} {k : BodyState → State → Outcome}
    (hstate : ∀ s, (f s).rxState = s.rxState) (hg : Commutes f g) (hk : ∀ x, Commutes f (k x)) :
    Commutes f (receive g k) := by
  intro s
  rcases receive_cases s with h | h | h | ⟨x, h⟩
  · rw [receive_discard h, receive_discard (by rwa [hstate])]; rfl
  · rw [receive_seek h, receive_seek ((hstate s).trans h), hg s]
  · rw [receive_held h, receive_held ((hstate s).trans h)]; rfl
  · rw [receive_body h, receive_body ((hstate s).trans h), hk x s]

theorem dispatchFrame_commutes (r : TxRegs) (ft : Byte) : Commutes (withTxRegs r) (dispatchFrame ft) := by
  intro s
  have hdata : frameData (withTxRegs r s) = frameData s := rfl
  rcases h : frameData s with _ | _ | ⟨b, t⟩
  · simp only [dispatchFrame, hdata, h]; rfl
  · simp only [dispatchFrame, hdata, h]; rfl
  · rw [dispatchFrame_cons h, dispatchFrame_cons (hdata.trans h), mapNext, apply_ite (withTxRegs r)]
    rfl

theorem validate_commutes (r : TxRegs) : Commutes (withTxRegs r) validate := by
  intro s
  have hdata : frameData (withTxRegs r s) = frameData s := rfl
  rcases h : frameData s with _ | _ | ⟨ft, t⟩
  · simp only [validate, hdata, h]; rfl
  · rw [validate_nil h, validate_nil (hdata.trans h)]; rfl
  · rw [validate_cons h, validate_cons (hdata.trans h), dispatchFrame_commutes r ft s]

theorem acceptPayload_withTxRegs (r : TxRegs) (v : Byte) (s : State) :
    acceptPayload v (withTxRegs r s) = withTxRegs r (acceptPayload v s) := by
  simp only [acceptPayload, apply_ite (withTxRegs r)]
  rfl

theorem acceptValue_commutes (r : TxRegs) (x : BodyState) (v : Byte) : Commutes (withTxRegs r) (acceptValue x v) := by
  intro s
  cases x with
  | lenHi => rfl
  | lenLo => rfl
  | payload => exact congrArg Host.Outcome.next (acceptPayload_withTxRegs r v { s with rxEpend := false })
  | checksum =>
    have hsum : Commutes (withTxRegs r) (acceptChecksum v) :=
      .ite (fun _ => Iff.rfl) (validate_commutes r) fun _ => rfl
    exact hsum { s with rxEpend := false }

theorem bodyValue_commutes (r : TxRegs) (b : Byte) (x : BodyState) : Commutes (withTxRegs r) (bodyValue b x) :=
  fun s => acceptValue_commutes r x (valueByte b s) s

theorem seekByte_commutes (r : TxRegs) (b : Byte) : Commutes (withTxRegs r) (seekByte b) :=
  .ite (fun _ => Iff.rfl) (fun _ => rfl) fun _ => rfl

theorem bodyByte_commutes (r : TxRegs) (b : Byte) (x : BodyState) : Commutes (withTxRegs r) (bodyByte b x) :=
  .ite (fun _ => Iff.rfl) (fun _ => rfl) (.ite (fun _ => Iff.rfl) (fun _ => rfl) (bodyValue_commutes r b x))

theorem execRxByte_commutes (r : TxRegs) (b : Byte) : Commutes (withTxRegs r) (execRxByte b) := by
  intro s
  rw [execRxByte_eq, execRxByte_eq]
  exact Commutes.receive (f := withTxRegs r) (fun _ => rfl) (seekByte_commutes r b) (bodyByte_commutes r b) s

/-- Row `OTHER`, of any byte: of a special byte it does not do what `RX_BYTE` does. -/
theorem execOther_commutes (r : TxRegs) (b : Byte) : Commutes (withTxRegs r) (execOther b) :=
  .receive (fun _ => rfl) (fun _ => rfl) (bodyValue_commutes r b)

theorem execRxClose_commutes (r : TxRegs) : Commutes (withTxRegs r) execRxClose := by
  intro s
  have hstate : (withTxRegs r s).rxState = s.rxState := rfl
  cases h : s.rxState <;> simp only [execRxClose, hstate, h] <;> rfl

theorem execDispatchAck_commutes (r : TxRegs) (c : Bool) : Commutes (withTxRegs r) (execDispatchAck c) := by
  refine .ite (fun _ => Iff.rfl) (fun s => ?_) fun _ => rfl
  have hdata : drecData (withTxRegs r s) = drecData s := rfl
  cases h : drecData s <;> simp only [hdata, h] <;> rfl

/-- The receive-side instructions: a byte, row `OTHER`, a close, an acknowledge, or a frame-type row. -/
theorem isReceiveSide_cases {i : Instr} (h : isReceiveSide i = true) :
    (∃ b, i.wf = true ∧ wireByteOf i = some b) ∨ (∃ b, i = .other b) ∨ i = .rxClose ∨ (∃ c, i = .dispatchAck c) ∨
      ∃ ft, frameTypeOf i = some ft := by
  cases i <;> simp_all [isReceiveSide, wireByteOf, frameTypeOf, Instr.wf]

theorem exec_commutes_withTxRegs {i : Instr} (h : isReceiveSide i = true) (r : TxRegs) :
    Commutes (withTxRegs r) (exec i) := by
  obtain ⟨b, hwf, hb⟩ | ⟨b, rfl⟩ | rfl | ⟨c, rfl⟩ | ⟨ft, hft⟩ := isReceiveSide_cases h
  · intro s
    rw [exec_wireByte hwf hb, exec_wireByte hwf hb, execRxByte_commutes r b s]
  · exact execOther_commutes r b
  · exact execRxClose_commutes r
  · exact execDispatchAck_commutes r c
  · intro s
    rw [exec_frameType hft, exec_frameType hft, dispatchFrame_commutes r ft s]

/-- No receive-side instruction emits on `TXO`: none is a framer event or reset. -/
theorem exec_receiveSide_txo {i : Instr} {s t : State} (hi : isReceiveSide i = true) (h : exec i s = .next t) :
    t.txo = s.txo := by
  obtain ⟨l, rfl, _⟩ | ⟨b, rfl, _⟩ | ⟨rfl, _⟩ | ⟨_, htxo⟩ := (exec_effect h).transmit
  · simp [isReceiveSide] at hi
  · simp [isReceiveSide] at hi
  · simp [isReceiveSide] at hi
  · exact htxo

/-! ### The framer commutes with a change of `RX_STATE`, and what closes a frame -/

/-- A state with another `RX_STATE`. -/
def withRxState (x : RxState) (s : State) : State :=
  { s with rxState := x }

theorem exec_txStart_commutes (x : RxState) (l : Half) : Commutes (withRxState x) (exec (.txStart l)) := by
  intro s
  cases h : s.txState with
  | tIdle => rw [exec_txStart_idle l h, exec_txStart_idle (s := withRxState x s) l h]; rfl
  | tPayload => rw [exec_txStart_open l h, exec_txStart_open (s := withRxState x s) l h]; rfl

theorem exec_txData_commutes (x : RxState) (b : Byte) : Commutes (withRxState x) (exec (.txData b)) := by
  intro s
  cases h : s.txState with
  | tIdle => rw [exec_txData_idle b h, exec_txData_idle (s := withRxState x s) b h]; rfl
  | tPayload => rw [exec_txData_open b h, exec_txData_open (s := withRxState x s) b h]; rfl

/-- A sent byte closes the open frame only as its last. -/
theorem sendTxByte_closes {b : Byte} {s : State} (hopen : s.txState = .tPayload)
    (h : (sendTxByte b s).txState = .tIdle) : s.txRem = 1 := by
  by_contra hrem
  rw [sendTxByte_eq, if_neg hrem] at h
  simp [hopen] at h

/-- Only reset, which emits nothing, or the last byte closes an open frame. -/
theorem exec_closes_cases {i : Instr} {s t : State} (hopen : s.txState = .tPayload) (h : exec i s = .next t)
    (hidle : t.txState = .tIdle) : (i = .softReset ∧ t.txo = s.txo) ∨ ((∃ b, i = .txData b) ∧ s.txRem = 1) := by
  obtain ⟨b, rfl, rfl⟩ | ⟨rfl, rfl⟩ | ⟨_, hregs, _⟩ := exec_open_cases hopen h
  · exact .inr ⟨⟨b, rfl⟩, sendTxByte_closes hopen hidle⟩
  · exact .inl ⟨rfl, rfl⟩
  · have hstate : t.txState = s.txState := congrArg TxRegs.txState hregs
    simp [hstate, hopen] at hidle

/-- Settles O16: the receive side commutes with a change of the transmit registers and emits nothing on `TXO`, the
framer commutes with a change of `RX_STATE`, and its frame is closed by its last byte or by reset. -/
theorem transmitIsIndependentOfReceive : Obligations.TransmitIsIndependentOfReceive := by
  unfold Obligations.TransmitIsIndependentOfReceive
  refine ⟨fun i r s hi => exec_commutes_withTxRegs hi r s, fun i s t => exec_receiveSide_txo, ?framer,
    fun i s t => exec_closes_cases⟩
  rintro i x s (⟨l, rfl⟩ | ⟨b, rfl⟩)
  · exact exec_txStart_commutes x l s
  · exact exec_txData_commutes x b s

end Sys2Proof.Machine
end

section
/-! SUPPORT. The receive deframer byte by byte (spec/42_rx_deframer.md R100 to R107): what an instruction that delivers a
byte does in each receive state, and the accept rules of the length and of the frame data as updates of the state. -/

namespace Sys2Proof.Machine

/-! ### What an instruction that delivers a byte does, by the receive state -/

/-- Every instruction that delivers a byte runs the receive side, row `OTHER` of a special byte too. -/
theorem exec_wireByte_receive {i : Instr} {b : Byte} (h : wireByteOf i = some b) :
    ∃ f g, ∀ s, exec i s = receive f g s := by
  cases i <;> simp only [wireByteOf, reduceCtorEq] at h
  case rxByte c => exact ⟨_, _, execRxByte_eq c⟩
  case delim | escb | xon | xoff | other => exact ⟨_, _, fun _ => rfl⟩

section
variable {i : Instr} {b : Byte} {s : State}

theorem exec_wireByte_seek (hwf : i.wf = true) (hb : wireByteOf i = some b) (h : s.rxState = .seek) :
    exec i s = seekByte b s := by
  rw [exec_wireByte hwf hb, execRxByte_eq, receive_seek h]

theorem exec_wireByte_body {x : BodyState} (hwf : i.wf = true) (hb : wireByteOf i = some b) (h : s.rxState = bodyRx x) :
    exec i s = bodyByte b x s := by
  rw [exec_wireByte hwf hb, execRxByte_eq, receive_body h]

theorem bodyByte_resync (x : BodyState) (he : s.rxLesc = true) (hr : s.rxLrsync = true) :
    bodyByte 0x7E x s = .next (resync x s) :=
  if_pos ⟨he, hr, rfl⟩

theorem bodyByte_escape (x : BodyState) (he : s.rxLesc = true) (hp : s.rxEpend = false) :
    bodyByte Config.esc x s = .next { s with rxEpend := true } :=
  (if_neg (fun h => absurd h.2.2 (by decide))).trans (if_pos ⟨he, hp, rfl⟩)

theorem bodyByte_value (x : BodyState) (h : takesValue b s) : bodyByte b x s = acceptValue x (valueByte b s) s :=
  (if_neg h.1).trans (if_neg h.2)

/-- A value byte goes to the accept rule of its body state (R103). -/
theorem exec_valueByte {x : BodyState} (hwf : i.wf = true) (hb : wireByteOf i = some b) (h : s.rxState = bodyRx x)
    (hv : takesValue b s) : exec i s = acceptValue x (valueByte b s) s :=
  (exec_wireByte_body hwf hb h).trans (bodyByte_value x hv)

end

/-! ### The accept rules -/

/-- Two bytes as a big-endian number (R48). -/
theorem toNat_append_byte (h l : Byte) : (h ++ l : Half).toNat = 256 * h.toNat + l.toNat := by
  rw [BitVec.toNat_append, ← Nat.shiftLeft_add_eq_or_of_lt l.isLt, Nat.shiftLeft_eq, Nat.mul_comm]

theorem toNat_hiByte (v : Half) : (hiByte v).toNat = v.toNat / 256 := by
  rw [hiByte, BitVec.extractLsb'_toNat, Nat.shiftRight_eq_div_pow]
  omega

/-- A byte as the high byte of a length whose low byte is still to come (R105). -/
theorem append_zero_eq_ofNat (v : Byte) : v ++ 0x00#8 = BitVec.ofNat 16 (256 * v.toNat) := by
  have hlt : 256 * v.toNat < 2 ^ 16 := by omega
  exact BitVec.eq_of_toNat_eq ((toNat_append_byte v 0).trans (Nat.mod_eq_of_lt hlt).symm)

/-- The frame-data byte of a length not yet reached is stored, summed and counted (R107). -/
theorem acceptPayload_of_lt (v : Byte) {s : State} (h : s.rxCnt < s.rxLen) :
    acceptPayload v s =
      { s with
        pbuf := Memory.write s.rxCnt.toNat v s.pbuf
        rxSum := s.rxSum + v
        rxCnt := s.rxCnt + 1
        rxState := if s.rxCnt + 1 = s.rxLen then .checksum else s.rxState } :=
  if_pos h

/-! ### The statements -/

/-- Settles O17: the word is the encoding of `RX_BYTE`, and every instruction that delivers a byte runs the receive side,
which discards the byte in both states. -/
theorem bytesAreDiscardedWhenNotRunning : Obligations.BytesAreDiscardedWhenNotRunning := by
  unfold Obligations.BytesAreDiscardedWhenNotRunning
  refine ⟨fun b => Laws.RoundTrip.rxByte b rfl, fun i b s hb h => ?_⟩
  obtain ⟨f, g, hrec⟩ := exec_wireByte_receive hb
  rw [hrec, receive_discard h]

/-- Settles O18: the two branches of what a byte does in `SEEK`, with the operation of each written out. -/
theorem seekFindsTheDelimiter : Obligations.SeekFindsTheDelimiter := by
  unfold Obligations.SeekFindsTheDelimiter
  intro i b s hwf hb h
  rw [exec_wireByte_seek hwf hb h]
  exact ⟨fun hdelim => if_pos hdelim, fun hother => if_neg hother⟩

/-- Settles O21: `RESYNC` is the event and its counter, and then the opening of a frame. -/
theorem rawDelimiterResyncs : Obligations.RawDelimiterResyncs := by
  unfold Obligations.RawDelimiterResyncs
  intro i x s hwf hb h he hr
  exact (exec_wireByte_body hwf hb h).trans (bodyByte_resync x he hr)

/-- Settles O22: the accept rule of `LEN_HI`, with the length as a number. -/
theorem firstLengthByteIsTheHighByte : Obligations.FirstLengthByteIsTheHighByte := by
  unfold Obligations.FirstLengthByteIsTheHighByte
  intro i b s hwf hb h hv
  rw [exec_valueByte (x := .lenHi) hwf hb h hv, ← append_zero_eq_ofNat]
  rfl

/-- Settles O23: the length is the high byte kept with the value byte after it. -/
theorem secondLengthByteIsTheLowByte : Obligations.SecondLengthByteIsTheLowByte := by
  unfold Obligations.SecondLengthByteIsTheLowByte
  intro i b s hwf hb h hv
  refine ⟨hiByte s.rxLen ++ valueByte b s, ?_, exec_valueByte (x := .lenLo) hwf hb h hv⟩
  rw [toNat_append_byte, toNat_hiByte]

/-- Settles O24: the invariant gives the guard of the accept rule, and its buffer is a write at `RX_CNT`. -/
theorem payloadByteIsStored : Obligations.PayloadByteIsStored := by
  unfold Obligations.PayloadByteIsStored
  constructor
  · intro s hinv h
    obtain ⟨_, _, _, hpayload, _⟩ := hinv.progress
    exact hpayload h
  · intro i b s hwf hb h hv hlt
    refine ⟨Memory.write s.rxCnt.toNat (valueByte b s) s.pbuf, ?_, Memory.read_write_same _ _ _,
      fun a ha => Memory.read_write_other _ _ ha⟩
    rw [exec_valueByte (x := .payload) hwf hb h hv, ← h]
    exact congrArg Host.Outcome.next (acceptPayload_of_lt (s := { s with rxEpend := false }) (valueByte b s) hlt)

end Sys2Proof.Machine
end

section
/-! SUPPORT. A frame fed back to the receiver (spec/42_rx_deframer.md R112): one escaped byte is one value byte for the
accept rule, the state of the receiver in the middle of a frame, and the run of a whole frame up to `VALIDATE`. -/

namespace Sys2Proof.Machine

/-! ### Runs of received bytes -/

theorem runInstrs_append_of_next {is js : List Instr} {s u : State} (h : runInstrs is s = .next u) :
    runInstrs (is ++ js) s = runInstrs js u := by
  induction is generalizing s with
  | nil => cases h; rfl
  | cons i is ih =>
    obtain ⟨v, hv, hu⟩ := runInstrs_cons_eq_next.mp h
    rw [List.cons_append, runInstrs, hv]
    exact ih hu

theorem runInstrs_singleton (i : Instr) (s : State) : runInstrs [i] s = exec i s := by
  rw [runInstrs]
  cases exec i s <;> rfl

theorem feed_append (bs cs : List Byte) : feed (bs ++ cs) = feed bs ++ feed cs :=
  List.map_append

theorem runInstrs_feed_append {bs cs : List Byte} {s u : State} (h : runInstrs (feed bs) s = .next u) :
    runInstrs (feed (bs ++ cs)) s = runInstrs (feed cs) u := by
  rw [feed_append, runInstrs_append_of_next h]

/-! ### One escaped byte -/

theorem valueByte_of_noPending (b : Byte) {s : State} (h : s.rxEpend = false) : valueByte b s = b :=
  if_neg fun hc => by simp [h] at hc

/-- The second byte of an escape pair stands for the byte that was escaped: the mask cancels itself. -/
theorem valueByte_of_pending (v : Byte) {s : State} (he : s.rxLesc = true) (hp : s.rxEpend = true) :
    valueByte (v ^^^ Config.escMask) s = v := by
  rw [valueByte, if_pos ⟨he, hp⟩, BitVec.xor_assoc, BitVec.xor_self, BitVec.xor_zero]

/-- The accept rules clear `RX_EPEND` first, so they do not depend on it. -/
theorem acceptValue_setEpend (x : BodyState) (v : Byte) (p : Bool) (s : State) :
    acceptValue x v { s with rxEpend := p } = acceptValue x v s := by
  cases x <;> rfl

/-- A byte that opens neither a resync nor an escape pair is accepted as it is. -/
theorem exec_rxByte_plain {x : BodyState} {s : State} {v : Byte} (h : s.rxState = bodyRx x) (hp : s.rxEpend = false)
    (hv : takesValue v s) : exec (.rxByte v) s = acceptValue x v s := by
  rw [exec_valueByte rfl rfl h hv, valueByte_of_noPending v hp]

/-- An escape pair is accepted as the byte that was escaped, whatever `RSYNC` is: its second byte is no `0x7E`. -/
theorem runInstrs_feed_escapePair {x : BodyState} {s : State} {v : Byte} (h : s.rxState = bodyRx x)
    (he : s.rxLesc = true) (hp : s.rxEpend = false) (hv : v ^^^ Config.escMask ∈ escSeconds) :
    runInstrs (feed [Config.esc, v ^^^ Config.escMask]) s = acceptValue x v s := by
  have hdelim : v ^^^ Config.escMask ≠ 0x7E := fun heq => absurd (heq ▸ hv) (by decide)
  have hfirst : exec (.rxByte Config.esc) s = .next { s with rxEpend := true } :=
    (exec_wireByte_body rfl rfl h).trans (bodyByte_escape x he hp)
  have hsecond : exec (.rxByte (v ^^^ Config.escMask)) { s with rxEpend := true } = acceptValue x v s := by
    rw [exec_valueByte (s := { s with rxEpend := true }) rfl rfl h ⟨fun hc => hdelim hc.2.2, fun hc => nomatch hc.2.1⟩,
      valueByte_of_pending (s := { s with rxEpend := true }) v he rfl, acceptValue_setEpend]
  rw [feed, List.map_cons, runInstrs, hfirst]
  exact (runInstrs_singleton _ _).trans hsecond

/-- What is written for one byte in the receiver's mode is one value byte for the accept rule (R80, R103). -/
theorem runInstrs_feed_escByte {x : BodyState} {s : State} (v : Byte) (h : s.rxState = bodyRx x)
    (hp : s.rxEpend = false) : runInstrs (feed (escByte v s.rxLesc)) s = acceptValue x v s := by
  cases he : s.rxLesc with
  | false =>
    rw [escByte_false]
    exact (runInstrs_singleton _ s).trans (exec_rxByte_plain h hp (by simp [takesValue, he]))
  | true =>
    obtain ⟨hw, hx⟩ | ⟨hw, hv⟩ := escByte_true_cases v <;> rw [hw]
    · exact runInstrs_feed_escapePair h he hp hx
    · have hdelim : v ≠ 0x7E := fun heq => hv (heq ▸ by decide)
      have hesc : v ≠ 0x7D := fun heq => hv (heq ▸ by decide)
      exact (runInstrs_singleton _ s).trans
        (exec_rxByte_plain h hp ⟨fun hc => hdelim hc.2.2, fun hc => hesc hc.2.2⟩)

/-! ### The receiver in the middle of a frame -/

/-- The receiver that opened a frame in `s` and has since read the length `len` and the frame data `d`. -/
def midFrame (x : BodyState) (len : Half) (d : List Byte) (s : State) : State :=
  { s with
    rxState := bodyRx x
    rxLesc := s.ctrlEsc
    rxLrsync := s.ctrlRsync
    rxEpend := false
    rxLen := len
    rxCnt := BitVec.ofNat 16 d.length
    rxSum := sum8 d
    pbuf := Memory.ofBytes 0 d }

/-- The body state after the length `len` and the frame data `d` of it (R106, R107). -/
def dataState (len : Half) (d : List Byte) : BodyState :=
  if d.length = len.toNat then .checksum else .payload

theorem dataState_of_lt {len : Half} {d : List Byte} (h : d.length < len.toNat) : dataState len d = .payload :=
  if_neg h.ne

theorem dataState_of_eq {len : Half} {d : List Byte} (h : d.length = len.toNat) : dataState len d = .checksum :=
  if_pos h

/-- The accept rules compare the byte count with the length as 16-bit registers. -/
theorem bodyRx_dataState {len : Half} {d : List Byte} (h : d.length ≤ len.toNat) :
    bodyRx (dataState len d) = if BitVec.ofNat 16 d.length = len then .checksum else .payload := by
  have hn : (BitVec.ofNat 16 d.length).toNat = d.length := Nat.mod_eq_of_lt (h.trans_lt len.isLt)
  have hiff : BitVec.ofNat 16 d.length = len ↔ d.length = len.toNat := by
    rw [← BitVec.toNat_inj, hn]
  simp only [dataState, apply_ite bodyRx, hiff]
  rfl

@[simp] theorem midFrame_params (x : BodyState) (len : Half) (d : List Byte) (s : State) :
    (midFrame x len d s).params = s.params := rfl

theorem openFrame_eq_midFrame (s : State) : openFrame s = midFrame .lenHi 0 [] s := rfl

theorem acceptValue_lenHi_midFrame (v : Byte) (s : State) :
    acceptValue .lenHi v (midFrame .lenHi 0 [] s) = .next (midFrame .lenLo (v ++ 0x00#8) [] s) := rfl

/-- The high byte that `LEN_HI` keeps and the low byte after it are the length again. -/
theorem hiByte_append_zero_append_loByte (len : Half) : hiByte (hiByte len ++ 0x00#8) ++ loByte len = len := by
  have hlo : (loByte len).toNat = len.toNat % 256 := by
    rw [loByte, BitVec.extractLsb'_toNat, Nat.shiftRight_zero]
  apply BitVec.eq_of_toNat_eq
  rw [toNat_append_byte, toNat_hiByte, toNat_append_byte, toNat_hiByte, hlo, BitVec.toNat_ofNat]
  omega

theorem acceptValue_lenLo_midFrame (len : Half) (s : State) :
    acceptValue .lenLo (loByte len) (midFrame .lenLo (hiByte len ++ 0x00#8) [] s) =
      .next (midFrame (dataState len []) len [] s) := by
  have hrx : bodyRx (dataState len []) = if len = 0 then .checksum else .payload :=
    (bodyRx_dataState (Nat.zero_le _)).trans (if_congr eq_comm rfl rfl)
  simp only [acceptValue, acceptLenLo, midFrame, hiByte_append_zero_append_loByte, hrx]
  rfl

/-- In `PAYLOAD` the next byte of frame data is stored behind those before it (R107). -/
theorem acceptValue_payload_midFrame {len : Half} {d : List Byte} (v : Byte) (s : State) (h : d.length < len.toNat) :
    acceptValue .payload v (midFrame .payload len d s) =
      .next (midFrame (dataState len (d ++ [v])) len (d ++ [v]) s) := by
  have hcnt : (BitVec.ofNat 16 d.length).toNat = d.length := Nat.mod_eq_of_lt (h.trans len.isLt)
  have hlt : (midFrame .payload len d s).rxCnt < len := BitVec.lt_def.mpr (hcnt.symm ▸ h)
  have hpbuf : Memory.write (BitVec.ofNat 16 d.length).toNat v (Memory.ofBytes 0 d) = Memory.ofBytes 0 (d ++ [v]) := by
    rw [hcnt, ← Memory.write_ofBytes, Nat.zero_add]
  have hsum : sum8 d + v = sum8 (d ++ [v]) := by rw [sum8_append]; simp [sum8]
  have hnext : BitVec.ofNat 16 d.length + 1 = BitVec.ofNat 16 (d ++ [v]).length := by
    rw [List.length_append, BitVec.ofNat_add]; rfl
  have hrx := bodyRx_dataState (len := len) (d := d ++ [v]) (by rw [List.length_append]; exact h)
  refine congrArg Host.Outcome.next ((acceptPayload_of_lt v hlt).trans ?_)
  simp only [midFrame, hpbuf, hsum, hnext, hrx]
  rfl

/-! ### A whole frame -/

theorem runInstrs_feed_escByte_midFrame (x : BodyState) (len : Half) (d : List Byte) (v : Byte) (s : State) :
    runInstrs (feed (escByte v s.ctrlEsc)) (midFrame x len d s) = acceptValue x v (midFrame x len d s) :=
  runInstrs_feed_escByte (s := midFrame x len d s) v rfl rfl

/-- The delimiter and the length bytes open a frame and read its length. -/
theorem runInstrs_feed_header (len : Half) {s : State} (h : s.rxState = .seek) :
    runInstrs (feed (Config.delim :: escape (be16 len) s.ctrlEsc)) s =
      .next (midFrame (dataState len []) len [] s) := by
  have hdelim : runInstrs (feed [Config.delim]) s = .next (midFrame .lenHi 0 [] s) := by
    rw [feed, List.map_singleton, runInstrs_singleton, exec_wireByte_seek rfl rfl h, ← openFrame_eq_midFrame]
    exact if_pos rfl
  have hhi : runInstrs (feed (escByte (hiByte len) s.ctrlEsc)) (midFrame .lenHi 0 [] s) =
      .next (midFrame .lenLo (hiByte len ++ 0x00#8) [] s) :=
    (runInstrs_feed_escByte_midFrame ..).trans (acceptValue_lenHi_midFrame _ s)
  have hlo : runInstrs (feed (escByte (loByte len) s.ctrlEsc)) (midFrame .lenLo (hiByte len ++ 0x00#8) [] s) =
      .next (midFrame (dataState len []) len [] s) :=
    (runInstrs_feed_escByte_midFrame ..).trans (acceptValue_lenLo_midFrame len s)
  have hsplit : Config.delim :: escape (be16 len) s.ctrlEsc =
      [Config.delim] ++ (escByte (hiByte len) s.ctrlEsc ++ escByte (loByte len) s.ctrlEsc) := by
    simp [be16, escape]
  rw [hsplit, runInstrs_feed_append hdelim, runInstrs_feed_append hhi, hlo]

/-- The rest of the frame data, after a part `d` of it. -/
theorem runInstrs_feed_data {len : Half} {d c : List Byte} (s : State) (h : d.length + c.length = len.toNat) :
    runInstrs (feed (escape c s.ctrlEsc)) (midFrame (dataState len d) len d s) =
      .next (midFrame .checksum len (d ++ c) s) := by
  induction c generalizing d with
  | nil => rw [dataState_of_eq h, List.append_nil]; rfl
  | cons v c ih =>
    rw [List.length_cons] at h
    have hlt : d.length < len.toNat := by omega
    have hhead : runInstrs (feed (escByte v s.ctrlEsc)) (midFrame (dataState len d) len d s) =
        .next (midFrame (dataState len (d ++ [v])) len (d ++ [v]) s) := by
      rw [dataState_of_lt hlt, runInstrs_feed_escByte_midFrame, acceptValue_payload_midFrame v s hlt]
    rw [escape, runInstrs_feed_append hhead, ih (by rw [List.length_append, List.length_singleton]; omega),
      List.append_assoc, List.singleton_append]

/-- The checksum of the frame data read passes, and the frame is validated (R108). -/
theorem acceptValue_cksum_midFrame (len : Half) (d : List Byte) (s : State) :
    acceptValue .checksum (cksum d) (midFrame .checksum len d s) = validate (midFrame .checksum len d s) := by
  have hsum : sum8 d + cksum d = 0xFF := verify_iff.mp ((verify_iff_eq_cksum d _).mpr rfl)
  exact if_pos hsum

/-- A frame fed to a receiver in `SEEK` in its mode is read whole and validated. -/
theorem runInstrs_feed_frame {d : List Byte} {s : State} (hlen : d.length ≤ 65535) (h : s.rxState = .seek) :
    runInstrs (feed (frame d s.ctrlEsc)) s = validate (midFrame .checksum (BitVec.ofNat 16 d.length) d s) := by
  have hread : ([] : List Byte).length + d.length = (BitVec.ofNat 16 d.length).toNat :=
    (Nat.zero_add _).trans (Nat.mod_eq_of_lt (by omega)).symm
  have hdata := runInstrs_feed_data s hread
  rw [frame, escape_append, escape_append, escape_singleton, List.append_assoc, ← List.cons_append,
    runInstrs_feed_append (runInstrs_feed_header _ h), runInstrs_feed_append hdata, List.nil_append,
    runInstrs_feed_escByte_midFrame, acceptValue_cksum_midFrame]

/-! ### What the validated frame gives -/

theorem frameData_midFrame {d : List Byte} (x : BodyState) (s : State) (hlen : d.length ≤ 65535) :
    frameData (midFrame x (BitVec.ofNat 16 d.length) d s) = some d := by
  have hn : (BitVec.ofNat 16 d.length).toNat = d.length := Nat.mod_eq_of_lt (by omega)
  calc frameData (midFrame x (BitVec.ofNat 16 d.length) d s)
    _ = Memory.readRange (Memory.ofBytes 0 d) 0 (BitVec.ofNat 16 d.length).toNat := rfl
    _ = some d := by rw [hn, Memory.readRange_ofBytes]

/-- `VALIDATE` of frame data that can be read, by `MALFORMED` (R116, R117). -/
theorem validate_of_frameData {d : List Byte} {s : State} (h : frameData s = some d) :
    validate s = .next (if malformed s.params d = true then rejectFrame (!d.isEmpty) (d.headD 0) s
      else offerFrame (d.headD 0) d s) := by
  cases d with
  | nil => exact validate_nil h
  | cons ft t => exact (validate_cons h).trans (dispatchFrame_cons h)

/-- Settles O30: the frame is read whole and validated, and `VALIDATE` rejects or offers its data. -/
theorem loopbackOffersTheFrame : Obligations.LoopbackOffersTheFrame := by
  unfold Obligations.LoopbackOffersTheFrame
  intro d s hlen h
  have hrun := (runInstrs_feed_frame hlen h).trans (validate_of_frameData (frameData_midFrame .checksum s hlen))
  rw [midFrame_params] at hrun
  refine ⟨_, hrun, fun hmalformed => ?_, fun hvalid => ?_⟩
  · rw [if_pos hmalformed]
    exact ⟨rfl, rfl, rfl⟩
  · rw [if_neg (by simp [hvalid])]
    have hhead : d.head? = some (d.headD 0) := by
      cases d with
      | nil => cases hvalid
      | cons ft t => rfl
    exact ⟨rfl, rfl, _, rfl, rfl, hhead, rfl⟩

end Sys2Proof.Machine
end

section
/-! SUPPORT. The packet-type dispatcher (spec/43_dispatcher.md R116, R117, R120): what the finite map `FRAME_TYPES` answers,
when frame data is malformed, what `VALIDATE` and a frame-type row do to readable frame data, and `DISPATCH_ACK`. -/

namespace Sys2Proof.Machine

/-! ### The table `FRAME_TYPES` as a finite map -/

/-- The keys of the table rise, so no two entries share a byte (R6). -/
theorem Params.wf_pairwise {p : Params} (hp : p.wf = true) : p.frameTypes.Pairwise fun a b => a.1 < b.1 := by
  simp only [Params.wf, Bool.and_eq_true, decide_eq_true_eq] at hp
  exact hp.1

/-- The lookup finds every entry of a finite map: the entries listed before it have smaller keys. -/
theorem Params.frameType_eq_some_iff {p : Params} (hp : p.wf = true) {ft : Byte} {e : FrameType} :
    p.frameType ft = some e ↔ (ft, e) ∈ p.frameTypes := by
  refine ⟨lookup_eq_some, fun hmem => ?_⟩
  obtain ⟨before, after, hsplit⟩ := List.append_of_mem hmem
  have hrising := Params.wf_pairwise hp
  rw [hsplit, List.pairwise_append] at hrising
  obtain ⟨-, -, hbefore⟩ := hrising
  refine List.lookup_eq_some_iff.2 ⟨before, after, hsplit, fun x hx => ?_⟩
  have hlt : x.1 < ft := hbefore x hx (ft, e) List.mem_cons_self
  exact bne_iff_ne.2 (BitVec.ne_of_lt hlt).symm

/-! ### Malformed frame data -/

theorem tooShort_iff {p : Params} {ft : Byte} {d : List Byte} :
    tooShort p ft d = true ↔ ∃ e, p.frameType ft = some e ∧ d.length < e.minLen := by
  unfold tooShort
  cases p.frameType ft with
  | none => simp
  | some e => simp

theorem malformed_cons_iff {p : Params} (hp : p.wf = true) {ft : Byte} {t : List Byte} :
    malformed p (ft :: t) = true ↔ ∃ e, (ft, e) ∈ p.frameTypes ∧ (ft :: t).length < e.minLen := by
  simp only [malformed, tooShort_iff, Params.frameType_eq_some_iff hp]

/-- Settles O33: empty data is malformed, and data with a first byte is malformed by that byte's entry. -/
theorem malformedIsTooShort : Obligations.MalformedIsTooShort := by
  unfold Obligations.MalformedIsTooShort
  intro p d hp
  cases d with
  | nil => simp [malformed]
  | cons ft t =>
    rw [malformed_cons_iff hp]
    constructor
    · rintro ⟨e, hmem, hlen⟩
      exact .inr ⟨ft, t, e, rfl, hmem, hlen⟩
    · rintro (hnil | ⟨ft', t', e, hd, hmem, hlen⟩)
      · cases hnil
      · cases hd
        exact ⟨e, hmem, hlen⟩

/-! ### `VALIDATE` and the frame-type rows -/

theorem frameTypeRows_frameTypeOf : ∀ x ∈ frameTypeRows, frameTypeOf x.2 = some x.1 := by decide

/-- The row a type byte decodes to is a row of that byte (R113, R115). -/
theorem frameTypeOf_decodeFrameType (ft : Byte) : frameTypeOf (decodeFrameType ft) = some ft := by
  unfold decodeFrameType
  cases h : frameTypeRows.lookup ft with
  | none => rfl
  | some i => exact frameTypeRows_frameTypeOf _ (lookup_eq_some h)

theorem frameData_of_rxLen_zero {s : State} (h : s.rxLen = 0) : frameData s = some [] := by
  rw [frameData, h]
  rfl

/-- A frame-type row on readable frame data of its type, by `MALFORMED` (R117). -/
theorem exec_frameType_cons {i : Instr} {ft : Byte} {t : List Byte} {s : State} (hi : frameTypeOf i = some ft)
    (hd : frameData s = some (ft :: t)) :
    exec i s = .next (if malformed s.params (ft :: t) = true then rejectFrame true ft s
      else offerFrame ft (ft :: t) s) :=
  (exec_frameType hi s).trans (dispatchFrame_cons hd)

theorem validate_eq_exec_decodeFrameType {ft : Byte} {t : List Byte} {s : State} (hd : frameData s = some (ft :: t)) :
    validate s = exec (decodeFrameType ft) s :=
  (validate_cons hd).trans (exec_frameType (frameTypeOf_decodeFrameType ft) s).symm

/-- Settles O31: a row rejects or offers by `MALFORMED`, and `VALIDATE` runs the row of the first byte. -/
theorem frameTypeRowsValidate : Obligations.FrameTypeRowsValidate := by
  unfold Obligations.FrameTypeRowsValidate
  refine ⟨fun i ft t s hi hd => ⟨fun hmalformed => ?_, fun hvalid c hc => ?_⟩, fun s hlen => ?_, fun ft t s hd => ?_⟩
  · rw [exec_frameType_cons hi hd, if_pos hmalformed]
    rfl
  · cases hc
    rw [exec_frameType_cons hi hd, if_neg (by simp [hvalid])]
    rfl
  · rw [validate_nil (frameData_of_rxLen_zero hlen), rejectFrame, raiseMalformedPacket, hlen]
    rfl
  · exact ⟨frameTypeOf_decodeFrameType ft, validate_eq_exec_decodeFrameType hd⟩

/-! ### `DISPATCH_ACK` -/

theorem exec_dispatchAck_outside (claim : Bool) {s : State} (h : s.rxState ≠ .dispatch) :
    exec (.dispatchAck claim) s = .next (setBadcmd s) :=
  if_neg h

theorem exec_dispatchAck_offered (claim : Bool) {s : State} {d : List Byte} (h : s.rxState = .dispatch)
    (hd : drecData s = some d) :
    exec (.dispatchAck claim) s = .next (goto .seek (emitDisp (.deliver (deliverRec s.drec d)
      (route s.params.dualKinds s.drec.kind claim).1 (route s.params.dualKinds s.drec.kind claim).2) s)) := by
  change execDispatchAck claim s = _
  rw [execDispatchAck, if_pos h, hd]

/-- `ROUTE` (R119): to the waiter when claimed, to the listeners when not claimed or when the kind is dual. -/
theorem route_eq (dual : List Kind) (k : Kind) (claim : Bool) :
    route dual k claim = (claim, decide (claim = false ∨ k ∈ dual)) := by
  cases claim <;> simp [route]

/-- Settles O36: both words decode by evaluation, and the acknowledge delivers by `ROUTE` or sets `BADCMD`. -/
theorem acknowledgeDeliversTheFrame : Obligations.AcknowledgeDeliversTheFrame := by
  unfold Obligations.AcknowledgeDeliversTheFrame
  refine ⟨rfl, rfl, fun claim s => ⟨exec_dispatchAck_outside claim, fun h d hd => ?_⟩⟩
  rw [exec_dispatchAck_offered claim h hd, route_eq]
  rfl

end Sys2Proof.Machine
end

section
/-! SUPPORT. Reserved words (spec/44_control.md R133): how the decoder's rows lie over the rows of R70, what a word that
matches none of them decodes to, and the step on such a word. -/

namespace Sys2Proof.Machine

/-! ### What a reserved word decodes to -/

/-- A row of the decoder lies in a row of R70: the same port, and the pattern and mask keep the row's bits. -/
def rowRefines (r : EventRow) (q : SpecRow) : Prop :=
  r.port = q.port ∧ r.mask &&& q.mask = q.mask ∧ r.pattern &&& q.mask = q.pattern

/-- A word that hits a row of the decoder matches the row of R70 it lies in. -/
theorem rowRefines.matches {r : EventRow} {q : SpecRow} {w : Word} (h : rowRefines r q) (hw : r.hits w = true) :
    w &&& q.mask = q.pattern := by
  obtain ⟨-, hmask, hpattern⟩ := h
  have hhit : w &&& r.mask = r.pattern := eq_of_beq hw
  rw [← hmask, ← BitVec.and_assoc, hhit, hpattern]

/-- The rows of the reserved operation codes are the only ones outside R70. -/
theorem eventRows_refine_or_reserved : ∀ r ∈ eventRows,
    (∃ q ∈ specRows, rowRefines r q) ∨ (∀ w, ∃ x, r.build w = .reservedAB x) ∨
      (∀ w, ∃ x, r.build w = .reservedCF x) := by
  have split : eventRows = eventRows.take 12 ++ eventRows.drop 12 := (List.take_append_drop 12 eventRows).symm
  have table : ∀ r ∈ eventRows.take 12, ∃ q ∈ specRows, rowRefines r q := by
    unfold rowRefines
    decide
  intro r hr
  rw [split, List.mem_append] at hr
  rcases hr with hr | hr
  · exact .inl (table r hr)
  · simp only [eventRows, List.drop, List.mem_cons, List.not_mem_nil, or_false] at hr
    rcases hr with rfl | rfl
    · exact .inr (.inl fun w => ⟨_, rfl⟩)
    · exact .inr (.inr fun w => ⟨_, rfl⟩)

/-- A reserved word is rejected, or is a reserved operation code (R72). -/
theorem decodeEvent_of_isReservedWord {p : Port} {w : Word} (h : isReservedWord p w) :
    (∃ e, decodeEvent p w = .error e) ∨ (∃ x, decodeEvent p w = .ok (.reservedAB x)) ∨
      (∃ x, decodeEvent p w = .ok (.reservedCF x)) := by
  unfold decodeEvent
  cases hfind : eventRows.find? (·.hits w) with
  | none => exact .inl ⟨_, rfl⟩
  | some r =>
    have hhits : r.hits w = true := List.find?_some (p := fun row => EventRow.hits row w) hfind
    by_cases hport : r.port = none ∨ r.port = some p
    · simp only [if_pos hport]
      rcases eventRows_refine_or_reserved r (List.mem_of_find?_eq_some hfind) with ⟨q, hq, href⟩ | hbuild | hbuild
      · have hother := h q hq (href.matches hhits)
        rw [← href.1] at hother
        exact absurd hport (not_or.2 hother)
      · obtain ⟨x, hx⟩ := hbuild w
        exact .inr (.inl ⟨x, congrArg _ hx⟩)
      · obtain ⟨x, hx⟩ := hbuild w
        exact .inr (.inr ⟨x, congrArg _ hx⟩)
    · simp only [if_neg hport]
      exact .inl ⟨_, rfl⟩

/-! ### The step on a waiting head -/

/-- The TRANSPORT port is held in `DISPATCH` (R52, R102). -/
theorem selectPort_ne_transport {s : State} (h : s.rxState = .dispatch) : selectPort s ≠ some .transport := by
  intro hsel
  have henabled := selectPort_enabled hsel
  simp [portEnabled, h] at henabled

section
variable {s : State} {p : Port} {w : Word} {rest : List Word}

theorem step_of_decodeEvent_ok {i : Instr} (hp : selectPort s = some p) (hq : portQueue p s = w :: rest)
    (hd : decodeEvent p w = .ok i) : step s = exec i (consume p s) := by
  simp only [step, hp, hq, hd]

theorem step_of_decodeEvent_error {e : DecodeReject} (hp : selectPort s = some p) (hq : portQueue p s = w :: rest)
    (hd : decodeEvent p w = .error e) : step s = reservedWord (consume p s) := by
  simp only [step, hp, hq, hd]

end

theorem exec_reservedAB (x : BitVec 29) (s : State) : exec (.reservedAB x) s = reservedWord s := rfl

theorem exec_reservedCF (x : BitVec 30) (s : State) : exec (.reservedCF x) s = reservedWord s := rfl

/-- Settles O6: whatever a reserved word decodes to, the step consumes it and sets `BADCMD`. -/
theorem reservedWordsOnlySetBadcmd : Obligations.ReservedWordsOnlySetBadcmd := by
  unfold Obligations.ReservedWordsOnlySetBadcmd
  refine ⟨fun s p w rest hp hq hw => ?_, fun s => selectPort_ne_transport, exec_reservedAB, exec_reservedCF⟩
  change step s = reservedWord (consume p s)
  rcases decodeEvent_of_isReservedWord hw with ⟨e, he⟩ | ⟨x, hx⟩ | ⟨x, hx⟩
  · exact step_of_decodeEvent_error hp hq he
  · exact (step_of_decodeEvent_ok hp hq hx).trans (exec_reservedAB x _)
  · exact (step_of_decodeEvent_ok hp hq hx).trans (exec_reservedCF x _)

end Sys2Proof.Machine
end

section
/-! SUPPORT. The control events (spec/44_control.md R126 to R131): the registers as numbers, the CSR map as a finite
map, and what the reads, the writes and `START` do. -/

namespace Sys2Proof.Machine

/-! ### The registers as numbers -/

/-- `CTRL` as a number (R22). -/
theorem ctrlWord_eq (s : State) : ctrlWord s = BitVec.ofNat 16 (s.ctrlEsc.toNat + 2 * s.ctrlRsync.toNat) := by
  apply BitVec.eq_of_toNat_eq
  simp only [ctrlWord, Laws.toNat_append_eq, BitVec.toNat_ofBool, BitVec.toNat_ofNat]
  have hesc := s.ctrlEsc.toNat_le
  have hrsync := s.ctrlRsync.toNat_le
  omega

/-- `STATUS` as a number (R23). -/
theorem statusWord_eq (s : State) :
    statusWord s = BitVec.ofNat 16
      ((rxStateCode s.rxState).toNat + 8 * s.rxEpend.toNat + 16 * (txStateCode s.txState).toNat + 32 * s.txerr.toNat +
        64 * s.badcmd.toNat + 128 * s.connlost.toNat + 256 * s.rxLesc.toNat + 512 * s.txLesc.toNat) := by
  apply BitVec.eq_of_toNat_eq
  simp only [statusWord, Laws.toNat_append_eq, BitVec.toNat_ofBool, BitVec.toNat_ofNat]
  have hrx := (rxStateCode s.rxState).isLt
  have htx := (txStateCode s.txState).isLt
  have hepend := s.rxEpend.toNat_le
  have htxerr := s.txerr.toNat_le
  have hbadcmd := s.badcmd.toNat_le
  have hconnlost := s.connlost.toNat_le
  have hrxLesc := s.rxLesc.toNat_le
  have htxLesc := s.txLesc.toNat_le
  omega

/-- `DREC_INFO` as a number (R35). -/
theorem drecInfoWord_eq (d : Drec) :
    drecInfoWord d = BitVec.ofNat 16
      (d.ft.toNat + 256 * (kindCode d.kind).toNat + 2048 * d.known.toNat + 4096 * d.fidv.toNat) := by
  apply BitVec.eq_of_toNat_eq
  simp only [drecInfoWord, Laws.toNat_append_eq, BitVec.toNat_ofBool, BitVec.toNat_ofNat]
  have hft := d.ft.isLt
  have hkind := (kindCode d.kind).isLt
  have hknown := d.known.toNat_le
  have hfidv := d.fidv.toNat_le
  omega

/-! ### The CSR map as a finite map -/

/-- The mapped addresses (R21). -/
def csrAddrs : List Byte :=
  [0x00, 0x01, 0x02, 0x03, 0x04, 0x05, 0x06, 0x07, 0x08, 0x09, 0x10, 0x11, 0x12, 0x13, 0x14]

theorem csrMap_map_fst (s : State) : (csrMap s).map Prod.fst = csrAddrs := rfl

theorem csrAddrs_nodup : csrAddrs.Nodup := by decide

/-- The lookup finds every entry of a list with distinct keys. -/
theorem lookup_eq_some_of_mem {α β : Type} [BEq α] [LawfulBEq α] {l : List (α × β)} {p : α × β}
    (hl : (l.map Prod.fst).Nodup) (hp : p ∈ l) : l.lookup p.1 = some p.2 := by
  cases h : l.lookup p.1 with
  | none => simpa using List.lookup_eq_none_iff.1 h p hp
  | some v =>
    have hentry : (p.1, v) = p := List.inj_on_of_nodup_map hl (lookup_eq_some h) hp rfl
    rw [← hentry]

theorem csrValue_of_mem {s : State} {p : Byte × Half} (hp : p ∈ csrMap s) : csrValue p.1 s = some p.2 :=
  lookup_eq_some_of_mem (csrMap_map_fst s ▸ csrAddrs_nodup) hp

theorem csrValue_eq_none {a : Byte} (h : a ∉ csrAddrs) (s : State) : csrValue a s = none := by
  cases hv : csrValue a s with
  | none => rfl
  | some v => exact absurd (csrMap_map_fst s ▸ List.mem_map_of_mem (lookup_eq_some hv)) h

/-- No register stands in the gap of the map or after its end (R21). -/
theorem notMem_csrAddrs {a : Byte} (ha : 0x0A ≤ a ∧ a ≤ 0x0F ∨ 0x15 ≤ a) : a ∉ csrAddrs := by
  have outside : ∀ k ∈ csrAddrs, ¬(0x0A ≤ k ∧ k ≤ 0x0F ∨ 0x15 ≤ k) := by
    simp [csrAddrs]
  exact fun hmem => outside a hmem ha

/-! ### The reads and the writes -/

theorem exec_csrRead_mapped {s : State} {p : Byte × Half} (hp : p ∈ csrMap s) :
    exec (.csrRead p.1) s = .next (emitCsro p.2 s) :=
  (execCsrRead_eq p.1 s).trans (by rw [csrValue_of_mem hp])

theorem exec_csrRead_reserved {a : Byte} (h : a ∉ csrAddrs) (s : State) :
    exec (.csrRead a) s = .next (setBadcmd (emitCsro 0 s)) :=
  (execCsrRead_eq a s).trans (by rw [csrValue_eq_none h])

/-- A written 1 clears a sticky bit, a written 0 leaves it (R129). -/
theorem and_not_eq_ite (flag bit : Bool) : (flag && !bit) = if bit = true then false else flag := by
  cases bit <;> simp

theorem wfCsrWriteAddr_iff {a : Byte} : wfCsrWriteAddr a = true ↔ a ≠ 0x00 ∧ a ≠ 0x01 := by
  simp [wfCsrWriteAddr]

theorem exec_csrWrite_refused {a : Byte} {d : Half} (h : (Instr.csrWrite a d).wf = true) (s : State) :
    exec (.csrWrite a d) s = .next (setBadcmd s) := by
  obtain ⟨hctrl, hstatus⟩ := wfCsrWriteAddr_iff.1 h
  exact (execCsrWrite_eq a d s).trans (by rw [if_neg hctrl, if_neg hstatus])

/-! ### The statements -/

/-- Settles O39: both words decode by evaluation, and the hold in `DISPATCH` is the port selection's. -/
theorem nopHasNoEffect : Obligations.NopHasNoEffect := by
  unfold Obligations.NopHasNoEffect
  refine ⟨fun p => ?_, fun s => rfl, fun s => selectPort_ne_transport⟩
  cases p <;> rfl

/-- Settles O40: the listed registers are the CSR map with its three packed words written as numbers. -/
theorem csrReadReturnsTheRegister : Obligations.CsrReadReturnsTheRegister := by
  unfold Obligations.CsrReadReturnsTheRegister
  refine ⟨fun a => Laws.RoundTrip.csrRead a rfl, fun s => ⟨fun p hp => exec_csrRead_mapped ?_,
    fun a ha => exec_csrRead_reserved (notMem_csrAddrs ha) s⟩⟩
  simp only [BitVec.ofNat_toNat] at hp
  rw [csrMap, ctrlWord_eq, statusWord_eq, drecInfoWord_eq]
  revert hp
  cases s.rxState <;> cases s.txState <;> cases s.drec.kind <;> exact id

/-- Settles O41: the two words are the encodings of the accepted writes, and a well-formed other write is refused. -/
theorem csrWriteEffects : Obligations.CsrWriteEffects := by
  unfold Obligations.CsrWriteEffects
  refine ⟨fun d => ⟨Laws.RoundTrip.csrWriteCtrl d rfl, Laws.RoundTrip.csrWriteStatus d rfl⟩, fun d s => rfl,
    fun d s => ?_, fun a d s h => exec_csrWrite_refused h s⟩
  simp only [← and_not_eq_ite]
  rfl

/-- Settles O42: the word decodes by evaluation, and `START` opens the search or does nothing. -/
theorem startBeginsReceiving : Obligations.StartBeginsReceiving := by
  unfold Obligations.StartBeginsReceiving
  refine ⟨rfl, fun s => ⟨fun h => ?_, fun hidle hstopped => ?_⟩⟩
  · exact (execStart_eq s).trans (by rw [if_pos h]; rfl)
  · exact (execStart_eq s).trans (by rw [if_neg (not_or.2 ⟨hidle, hstopped⟩)])

end Sys2Proof.Machine
end

section
/-! SUPPORT. `SOFT_RESET` (spec/44_control.md R132) and the reset values (R171): the block it leaves behind, and what
every mapped register of that block reads as. -/

namespace Sys2Proof.Machine

/-- The two ranges of the register map hold nothing but registers (R21). -/
theorem mem_csrAddrs {a : Byte} (ha : a ≤ 0x09 ∨ 0x10 ≤ a ∧ a ≤ 0x14) : a ∈ csrAddrs := by
  simp only [csrAddrs, List.mem_cons, List.not_mem_nil, or_false]
  bv_omega

/-- Every mapped register of a reset block reads 0, the packed words too: each state and kind has code 0 at reset. -/
theorem csrMap_resetBlock (s : State) : csrMap (resetBlock s) = csrAddrs.map fun a => (a, 0) := by
  rw [csrMap, ctrlWord_eq, statusWord_eq, drecInfoWord_eq]
  rfl

theorem mem_csrMap_resetBlock {a : Byte} (ha : a ∈ csrAddrs) (s : State) : (a, 0) ∈ csrMap (resetBlock s) :=
  csrMap_resetBlock s ▸ List.mem_map_of_mem ha

theorem exec_softReset (s : State) : exec .softReset s = .next (resetBlock s) := rfl

/-- Power-on is the reset block with empty ports and streams, so a reset finds nothing to change in it. -/
theorem resetBlock_reset : resetBlock State.reset = State.reset := rfl

/-- Settles O43: the word is the encoding of `SOFT_RESET`, and every mapped register of the reset block reads 0. -/
theorem resetValues : Obligations.ResetValues := by
  unfold Obligations.ResetValues
  refine ⟨Laws.RoundTrip.softReset rfl, exec_softReset, ?_, fun s t a hexec ha => ?_⟩
  · rw [exec_softReset, resetBlock_reset]
  · obtain rfl : resetBlock s = t := Host.Outcome.next.inj ((exec_softReset s).symm.trans hexec)
    exact exec_csrRead_mapped (mem_csrMap_resetBlock (mem_csrAddrs ha) s)

end Sys2Proof.Machine
end

section
/-! SUPPORT. The codes of the port events (spec/30_encoding.md R70 to R72), from the rows of the decoder: a row gives
back the word it was hit by, rows that differ on a common bit of their masks are disjoint, and so the words the decoder
takes are those a row of R70 matches. -/

namespace Sys2Proof.Machine

/-! ### Decoding what was encoded -/

/-- Settles O1: the round trip of each instruction's own code. -/
theorem encodeThenDecodeReturnsTheInstruction : Obligations.EncodeThenDecodeReturnsTheInstruction := by
  unfold Obligations.EncodeThenDecodeReturnsTheInstruction
  intro i
  cases i with
  | nop => exact Laws.RoundTrip.nop
  | rxByte b => exact Laws.RoundTrip.rxByte b
  | rxClose => exact Laws.RoundTrip.rxClose
  | dispatchAck c => exact Laws.RoundTrip.dispatchAck c
  | txStart l => exact Laws.RoundTrip.txStart l
  | txData b => exact Laws.RoundTrip.txData b
  | csrWriteCtrl d => exact Laws.RoundTrip.csrWriteCtrl d
  | csrWriteStatus d => exact Laws.RoundTrip.csrWriteStatus d
  | csrWrite a d => exact Laws.RoundTrip.csrWrite a d
  | csrRead a => exact Laws.RoundTrip.csrRead a
  | start => exact Laws.RoundTrip.start
  | softReset => exact Laws.RoundTrip.softReset
  | reservedAB x => exact Laws.RoundTrip.reservedAB x
  | reservedCF x => exact Laws.RoundTrip.reservedCF x
  | delim => exact Laws.RoundTrip.delim
  | escb => exact Laws.RoundTrip.escb
  | xon => exact Laws.RoundTrip.xon
  | xoff => exact Laws.RoundTrip.xoff
  | other b => exact Laws.RoundTrip.other b
  | ftTx64 => exact Laws.RoundTrip.ftTx64
  | ftTx16 => exact Laws.RoundTrip.ftTx16
  | ftAtCommand => exact Laws.RoundTrip.ftAtCommand
  | ftAtCommandQueue => exact Laws.RoundTrip.ftAtCommandQueue
  | ftTransmitRequest => exact Laws.RoundTrip.ftTransmitRequest
  | ftExplicitAddressingCommand => exact Laws.RoundTrip.ftExplicitAddressingCommand
  | ftRemoteAtCommandRequest => exact Laws.RoundTrip.ftRemoteAtCommandRequest
  | ftUserDataRelay => exact Laws.RoundTrip.ftUserDataRelay
  | ftRx64 => exact Laws.RoundTrip.ftRx64
  | ftRx16 => exact Laws.RoundTrip.ftRx16
  | ftRxIo64 => exact Laws.RoundTrip.ftRxIo64
  | ftRxIo16 => exact Laws.RoundTrip.ftRxIo16
  | ftAtCommandResponse => exact Laws.RoundTrip.ftAtCommandResponse
  | ftTxStatus => exact Laws.RoundTrip.ftTxStatus
  | ftModemStatus => exact Laws.RoundTrip.ftModemStatus
  | ftTransmitStatus => exact Laws.RoundTrip.ftTransmitStatus
  | ftReceivePacket => exact Laws.RoundTrip.ftReceivePacket
  | ftExplicitRxIndicator => exact Laws.RoundTrip.ftExplicitRxIndicator
  | ftIoDataSampleRxIndicator => exact Laws.RoundTrip.ftIoDataSampleRxIndicator
  | ftRemoteAtCommandResponse => exact Laws.RoundTrip.ftRemoteAtCommandResponse
  | ftUserDataRelayOutput => exact Laws.RoundTrip.ftUserDataRelayOutput
  | ftGeneric => exact Laws.RoundTrip.ftGeneric
  | ftUnknown b => exact Laws.RoundTrip.ftUnknown b

/-! ### Encoding what was decoded -/

/-- Upper bits put back before the lower bits they were cut from. -/
theorem append_extractLsb'_eq {m n : Nat} {hi : BitVec m} {w : BitVec (m + n)} (h : w.toNat / 2 ^ n = hi.toNat) :
    hi ++ w.extractLsb' 0 n = w := by
  apply BitVec.eq_of_toNat_eq
  rw [Laws.toNat_append_eq, BitVec.extractLsb'_toNat, Nat.shiftRight_zero, ← h, Nat.div_add_mod']

theorem ofBool_fieldClaim (w : Word) : BitVec.ofBool (fieldClaim w) = w.extractLsb' 0 1 := by
  ext i hi
  obtain rfl : i = 0 := by omega
  simp [fieldClaim]

/-- An operation code, the address and the data are the word again (R71). -/
theorem append_fieldAddr_fieldHalf {op : BitVec 8} {w : Word} (h : w.toNat / 16777216 = op.toNat) :
    op ++ fieldAddr w ++ fieldHalf w = w := by
  have hop : w.toNat / 2 ^ 16 = (op ++ fieldAddr w : Half).toNat := by
    rw [Laws.toNat_append_eq, fieldAddr, BitVec.extractLsb'_toNat, Nat.shiftRight_eq_div_pow]
    omega
  exact append_extractLsb'_eq hop

theorem fieldHalf_eq_zero {w : Word} (h : w.toNat % 65536 = 0) : fieldHalf w = 0#16 :=
  BitVec.eq_of_toNat_eq (by rw [fieldHalf, BitVec.extractLsb'_toNat, Nat.shiftRight_zero]; exact h)

/-- A row without operands is hit by one word. -/
theorem event_of_toNat_eq {q : Port} {c w : Word} (h : w.toNat = c.toNat) : Code.event q c = .event q w :=
  congrArg (Code.event q) (BitVec.eq_of_toNat_eq h.symm)

/-- What a row builds from a word that hits it is encoded as that word, on the row's port or else on HOST (R70, R71). -/
theorem eventRows_encode_build (w : Word) : ∀ r ∈ eventRows, w &&& r.mask = r.pattern →
    encode (r.build w) = .event (r.port.getD .host) w := by
  simp only [eventRows, List.forall_mem_cons]
  refine ⟨?nop, ?rxByte, ?rxClose, ?dispatchAck, ?txStart, ?txData, ?csrWriteCtrl, ?csrWriteStatus, ?csrWrite,
    ?csrRead, ?start, ?softReset, ?reservedAB, ?reservedCF, by simp⟩
  case nop => exact fun h => event_of_toNat_eq ((Laws.hits_nop w).1 h)
  case rxClose => exact fun h => event_of_toNat_eq ((Laws.hits_rxClose w).1 h)
  case start => exact fun h => event_of_toNat_eq ((Laws.hits_start w).1 h)
  case softReset => exact fun h => event_of_toNat_eq ((Laws.hits_softReset w).1 h)
  all_goals refine fun h => congrArg (Code.event _) ?_
  case rxByte => exact append_extractLsb'_eq ((Laws.hits_rxByte w).1 h)
  case dispatchAck => exact ofBool_fieldClaim w ▸ append_extractLsb'_eq ((Laws.hits_dispatchAck w).1 h)
  case txStart => exact append_extractLsb'_eq ((Laws.hits_txStart w).1 h)
  case txData => exact append_extractLsb'_eq ((Laws.hits_txData w).1 h)
  case csrWriteCtrl => exact append_extractLsb'_eq ((Laws.hits_csrWriteCtrl w).1 h)
  case csrWriteStatus => exact append_extractLsb'_eq ((Laws.hits_csrWriteStatus w).1 h)
  case csrWrite => exact append_fieldAddr_fieldHalf ((Laws.hits_csrWrite w).1 h)
  case csrRead =>
    obtain ⟨hop, hlow⟩ := (Laws.hits_csrRead w).1 h
    exact fieldHalf_eq_zero hlow ▸ append_fieldAddr_fieldHalf hop
  case reservedAB => exact append_extractLsb'_eq ((Laws.hits_reservedAB w).1 h)
  case reservedCF => exact append_extractLsb'_eq ((Laws.hits_reservedCF w).1 h)

/-- The row that decided, when the decoder answers an instruction. -/
theorem decodeEvent_eq_ok {p : Port} {w : Word} {i : Instr} (h : decodeEvent p w = .ok i) :
    ∃ r ∈ eventRows, w &&& r.mask = r.pattern ∧ (r.port = none ∨ r.port = some p) ∧ r.build w = i := by
  unfold decodeEvent at h
  cases hfind : eventRows.find? (·.hits w) with
  | none => simp [hfind] at h
  | some r =>
    have hhits : r.hits w = true := List.find?_some (p := fun row => EventRow.hits row w) hfind
    simp only [hfind] at h
    by_cases hport : r.port = none ∨ r.port = some p
    · rw [if_pos hport] at h
      exact ⟨r, List.mem_of_find?_eq_some hfind, eq_of_beq hhits, hport, Except.ok.inj h⟩
    · simp [if_neg hport] at h

theorem encode_of_decodeEvent {p : Port} {w : Word} {i : Instr} (h : decodeEvent p w = .ok i) :
    encode i = .event p w ∨ encode i = .event .host w := by
  obtain ⟨r, hr, hw, hport, rfl⟩ := decodeEvent_eq_ok h
  rw [eventRows_encode_build w r hr hw]
  rcases hport with hp | hp <;> simp [hp]

theorem eventRows_port_of_csrWrite {w : Word} {a : Byte} {d : Half} :
    ∀ r ∈ eventRows, r.build w = .csrWrite a d → r.port = some .host := by
  simp [eventRows]

/-- The general `CSR_WRITE` row is reached only by a word that misses the rows of the addresses 0 and 1: were the
address one of these, the word would be the code of the special row, which decodes to it (R70). -/
theorem wf_csrWrite_of_decodeEvent {p : Port} {w : Word} {a : Byte} {d : Half}
    (h : decodeEvent p w = .ok (.csrWrite a d)) : (Instr.csrWrite a d).wf = true := by
  obtain ⟨r, hr, -, hport, hbuild⟩ := decodeEvent_eq_ok h
  obtain rfl : .host = p := by simpa [eventRows_port_of_csrWrite r hr hbuild] using hport
  obtain rfl : (0x60#8 ++ a ++ d : Word) = w := (Code.event.inj ((or_self_iff.1 (encode_of_decodeEvent h)))).2
  refine wfCsrWriteAddr_iff.2 ⟨?_, ?_⟩ <;> rintro rfl
  · exact absurd ((Laws.RoundTrip.csrWriteCtrl d rfl).symm.trans h) (by simp)
  · exact absurd ((Laws.RoundTrip.csrWriteStatus d rfl).symm.trans h) (by simp)

theorem wf_of_isEvent {i : Instr} (h : isEvent i = true) (hcsr : ∀ a d, i ≠ .csrWrite a d) : i.wf = true := by
  cases i <;> simp_all [isEvent, Instr.wf]

theorem wf_of_decodeEvent {p : Port} {w : Word} {i : Instr} (h : decodeEvent p w = .ok i) : i.wf = true := by
  by_cases hcsr : ∃ a d, i = .csrWrite a d
  · obtain ⟨a, d, rfl⟩ := hcsr
    exact wf_csrWrite_of_decodeEvent h
  · exact wf_of_isEvent (decodeEvent_ok h).1 fun a d hi => hcsr ⟨a, d, hi⟩

theorem decodeWireByte_spec : ∀ b : Byte, (decodeWireByte b).wf = true ∧ encode (decodeWireByte b) = .wire b := by
  decide

theorem decodeFrameType_spec :
    ∀ b : Byte, (decodeFrameType b).wf = true ∧ encode (decodeFrameType b) = .frameType b := by
  decide

/-- Settles O2: a port word through the row that decided, a byte by evaluating the decoder on each. -/
theorem decodedCodesEncodeBack : Obligations.DecodedCodesEncodeBack := by
  unfold Obligations.DecodedCodesEncodeBack
  intro c i h
  cases c with
  | event p w =>
    have hw := encode_of_decodeEvent h
    refine ⟨wf_of_decodeEvent h, ?_⟩
    cases p with
    | host => exact .inl (or_self_iff.1 hw)
    | transport => exact hw.imp_right fun hhost => ⟨w, rfl, hhost⟩
  | wire b =>
    cases h
    exact (decodeWireByte_spec b).imp_right .inl
  | frameType b =>
    cases h
    exact (decodeFrameType_spec b).imp_right .inl

/-! ### Rows that hit one word -/

/-- The patterns of two rows that hit one word agree where both masks are set. -/
theorem pattern_and_mask_of_hits {pa ma pb mb w : Word} (ha : w &&& ma = pa) (hb : w &&& mb = pb) :
    pa &&& mb = pb &&& ma := by
  rw [← ha, ← hb, BitVec.and_assoc, BitVec.and_assoc, BitVec.and_comm ma]

theorem or_and_self_left (x y : Word) : x ||| (x &&& y) = x := by
  ext i hi
  rw [BitVec.getElem_or, BitVec.getElem_and]
  cases x[i] <;> rfl

/-- Where the patterns agree, the word with the bits of both is hit by both rows. -/
theorem or_hits_of_agree {pa ma pb mb : Word} (ha : pa &&& ma = pa) (h : pa &&& mb = pb &&& ma) :
    (pa ||| pb) &&& ma = pa := by
  rw [BitVec.and_or_distrib_right, ha, ← h, or_and_self_left]

theorem exists_hits_both_iff {pa ma pb mb : Word} (ha : pa &&& ma = pa) (hb : pb &&& mb = pb) :
    (∃ w : Word, w &&& ma = pa ∧ w &&& mb = pb) ↔ pa &&& mb = pb &&& ma :=
  ⟨fun ⟨_, hwa, hwb⟩ => pattern_and_mask_of_hits hwa hwb,
    fun h => ⟨pa ||| pb, or_hits_of_agree ha h, BitVec.or_comm pa pb ▸ or_hits_of_agree hb h.symm⟩⟩

theorem specRows_patterns_differ :
    specRows.Pairwise fun a b => a.pattern &&& b.mask ≠ b.pattern &&& a.mask := by decide

theorem eventRows_patterns_agree_iff :
    eventRows.Pairwise fun a b => a.pattern &&& b.mask = b.pattern &&& a.mask ↔
      (a.pattern = 0x60000000 ∨ a.pattern = 0x60010000) ∧ a.mask = 0xFFFF0000 ∧
        b.pattern = 0x60000000 ∧ b.mask = 0xFF000000 := by decide

theorem eventRows_pattern_in_mask : ∀ r ∈ eventRows, r.pattern &&& r.mask = r.pattern := by decide

/-- Settles O3: one word hits two rows exactly when their patterns agree on the common bits of their masks, which is
evaluated for each pair of rows. -/
theorem eventRowsAreDisjoint : Obligations.EventRowsAreDisjoint := by
  unfold Obligations.EventRowsAreDisjoint
  refine ⟨specRows_patterns_differ.imp fun hne w hw => hne (pattern_and_mask_of_hits hw.1 hw.2),
    eventRows_patterns_agree_iff.imp_of_mem fun {a b} ha hb hiff => ?_⟩
  rw [← hiff, ← exists_hits_both_iff (eventRows_pattern_in_mask a ha) (eventRows_pattern_in_mask b hb)]
  simp only [EventRow.hits, beq_iff_eq]

/-! ### The reserved words -/

/-- Every row of R70 stands in the decoder's list. -/
theorem specRows_mem_eventRows :
    ∀ q ∈ specRows, ∃ r ∈ eventRows, r.mask = q.mask ∧ r.pattern = q.pattern := by decide

/-- A row of the decoder that meets a row of R70 has its port. -/
theorem eventRows_port_of_agree : ∀ r ∈ eventRows, ∀ q ∈ specRows,
    r.pattern &&& q.mask = q.pattern &&& r.mask → r.port = q.port := by decide

/-- The rows of the reserved codes, the last two, meet no row of R70. -/
theorem reservedRows_disagree : ∀ r ∈ eventRows.drop 12, ∀ q ∈ specRows,
    r.pattern &&& q.mask ≠ q.pattern &&& r.mask := by decide

theorem eventRows_build_ne_reserved (w : Word) : ∀ r ∈ eventRows.take 12,
    (∀ x, r.build w ≠ .reservedAB x) ∧ ∀ x, r.build w ≠ .reservedCF x := by
  simp [eventRows]

/-- A word that a row of R70 for its port matches is neither rejected nor a reserved code: whichever row of the decoder
decides, it meets that row. -/
theorem decodeEvent_of_matches {p : Port} {w : Word} {q : SpecRow} (hq : q ∈ specRows) (hw : w &&& q.mask = q.pattern)
    (hport : q.port = none ∨ q.port = some p) :
    ∃ i, decodeEvent p w = .ok i ∧ (∀ x, i ≠ .reservedAB x) ∧ ∀ x, i ≠ .reservedCF x := by
  unfold decodeEvent
  cases hfind : eventRows.find? (·.hits w) with
  | none =>
    obtain ⟨r, hr, hmask, hpattern⟩ := specRows_mem_eventRows q hq
    exact absurd (beq_iff_eq.2 (hmask ▸ hpattern ▸ hw)) (List.find?_eq_none.1 hfind r hr)
  | some r =>
    have hhits : r.hits w = true := List.find?_some (p := fun row => EventRow.hits row w) hfind
    have hr : r ∈ eventRows := List.mem_of_find?_eq_some hfind
    have hagree := pattern_and_mask_of_hits (eq_of_beq hhits) hw
    have hrport := eventRows_port_of_agree r hr q hq hagree
    rw [← List.take_append_drop 12 eventRows, List.mem_append] at hr
    rcases hr with hr | hr
    · simp only [hrport, if_pos hport]
      exact ⟨_, rfl, eventRows_build_ne_reserved w r hr⟩
    · exact absurd hagree (reservedRows_disagree r hr q hq)

/-- Settles O4: a reserved word is rejected or a reserved code, and a word that is not reserved matches a row. -/
theorem decodeRejectsExactlyTheReservedWords : Obligations.DecodeRejectsExactlyTheReservedWords := by
  unfold Obligations.DecodeRejectsExactlyTheReservedWords
  refine fun p w => ⟨decodeEvent_of_isReservedWord, fun hdecode q hq hw => not_or.1 fun hport => ?_⟩
  obtain ⟨i, hi, hAB, hCF⟩ := decodeEvent_of_matches hq hw hport
  rw [hi] at hdecode
  rcases hdecode with ⟨e, he⟩ | ⟨x, hx⟩ | ⟨x, hx⟩
  · cases he
  · exact hAB x (Except.ok.inj hx)
  · exact hCF x (Except.ok.inj hx)

/-- Settles O5: each code by evaluating its decoder. -/
theorem sampleCodesDecode : Obligations.SampleCodesDecode := by
  unfold Obligations.SampleCodesDecode
  decide

end Sys2Proof.Machine
end

section
/-! SUPPORT. The invariant of the block (spec/10_state.md sections 4 to 6): each part by what it reads of the state, the
parts that an operation leaves alone, and every state change of a port event. -/

namespace Sys2Proof.Machine

/-! ### The buffer and what is read of it -/

/-- When all of the frame is received, what the dispatcher reads is what was received (R47). -/
theorem BufferInv.readRange {s : State} (h : BufferInv s) {n : Half} (hn : s.rxCnt = n) :
    Memory.readRange s.pbuf 0 n.toNat = some (pbufBytes s) := by
  obtain ⟨hcells, hlength, -⟩ := h
  rw [← hn, ← hlength, hcells]
  simpa [pbufBytes] using Memory.readRange_ofBytes 0 (pbufBytes s)

theorem BlockInv.frameData_checksum {s : State} (h : BlockInv s) (hs : s.rxState = .checksum) :
    frameData s = some (pbufBytes s) := by
  obtain ⟨-, -, -, -, hchecksum, -⟩ := h.progress
  exact h.buffer.readRange (hchecksum hs)

theorem BlockInv.frameData_dispatch {s : State} (h : BlockInv s) (hs : s.rxState = .dispatch) :
    frameData s = some (pbufBytes s) := by
  obtain ⟨-, -, -, -, -, hdispatch⟩ := h.progress
  exact h.buffer.readRange (hdispatch hs)

/-- In `DISPATCH` the data of the dispatch record is the frame data (R35). -/
theorem BlockInv.drecData_dispatch {s : State} (h : BlockInv s) (hs : s.rxState = .dispatch) :
    drecData s = some (pbufBytes s) := by
  obtain ⟨hlen, -, -⟩ := h.offer hs
  rw [drecData, hlen]
  exact h.frameData_dispatch hs

/-- Settles O49: the buffer is the cells of the received bytes, of which there are at most 65535. -/
theorem invariantBoundsTheBuffer : Obligations.InvariantBoundsTheBuffer := by
  unfold Obligations.InvariantBoundsTheBuffer
  intro s h
  obtain ⟨hcells, hlength, -⟩ := h.buffer
  have hbound : 0 + (pbufBytes s).length ≤ 65535 := by have := s.rxCnt.isLt; omega
  refine ⟨hcells ▸ Memory.ofBytes_wf hbound, ?_, fun c hc => ?_,
    fun hs => hs.elim h.frameData_checksum h.frameData_dispatch⟩
  · rw [← hlength, pbufBytes, List.length_map]
  · rw [hcells] at hc
    exact (Memory.mem_ofBytes hc).2.trans_le hbound

/-! ### Outside a frame -/

theorem blockInv_reset : BlockInv State.reset :=
  ⟨by decide, by decide, by decide, by decide, by decide, by decide⟩

/-- Settles O54: each part by evaluation. -/
theorem resetHasTheInvariant : Obligations.ResetHasTheInvariant :=
  blockInv_reset

/-- The receive states in which no frame is open or offered. -/
def isOutside : RxState → Bool
  | .idle | .seek | .stopped => true
  | .lenHi | .lenLo | .payload | .checksum | .dispatch => false

/-! ### `RX_CNT` and `RX_LEN`, by the receive state -/

section
variable {s : State}

theorem progressInv_outside (hs : isOutside s.rxState = true) (h : s.rxCnt ≤ s.rxLen) : ProgressInv s := by
  cases hx : s.rxState <;> simp_all [ProgressInv, isOutside]

theorem progressInv_lenHi (hs : s.rxState = .lenHi) (hcnt : s.rxCnt = 0) (hlen : s.rxLen = 0) : ProgressInv s := by
  simp [ProgressInv, hs, hcnt, hlen]

theorem progressInv_lenLo (hs : s.rxState = .lenLo) (hcnt : s.rxCnt = 0) (hlow : loByte s.rxLen = 0) :
    ProgressInv s := by
  have hle : 0#16 ≤ s.rxLen := by bv_omega
  simp [ProgressInv, hs, hcnt, hlow, hle]

theorem progressInv_payload (hs : s.rxState = .payload) (h : s.rxCnt < s.rxLen) : ProgressInv s := by
  simp [ProgressInv, hs, h, BitVec.le_of_lt h]

theorem progressInv_received (hs : s.rxState = .checksum ∨ s.rxState = .dispatch) (h : s.rxCnt = s.rxLen) :
    ProgressInv s := by
  rcases hs with hs | hs <;> simp [ProgressInv, hs, h]

end

/-! ### The invariant, by the receive state -/

section
variable {s : State}

/-- Outside a frame the invariant asks of the receive registers only what they keep of the last frame. -/
theorem blockInv_of_isOutside (hs : isOutside s.rxState = true) (hbuffer : BufferInv s) (hcnt : s.rxCnt ≤ s.rxLen)
    (hepend : s.rxEpend = false) (htx : TransmitInv s) (hparams : ParamsInv s) : BlockInv s where
  buffer := hbuffer
  progress := progressInv_outside hs hcnt
  escape h := by simp [hepend] at h
  transmit := htx
  offer h := by simp [h, isOutside] at hs
  params := hparams

theorem isBody_bodyRx (x : BodyState) : isBody (bodyRx x) = true := by
  cases x <;> rfl

theorem bodyRx_ne_dispatch (x : BodyState) : bodyRx x ≠ .dispatch := by
  cases x <;> decide

/-- In a body state nothing is offered, and an escape may be pending. -/
theorem blockInv_of_bodyRx {x : BodyState} (hs : s.rxState = bodyRx x) (hbuffer : BufferInv s)
    (hprogress : ProgressInv s) (hescape : s.rxEpend = true → s.rxLesc = true) (htx : TransmitInv s)
    (hparams : ParamsInv s) : BlockInv s where
  buffer := hbuffer
  progress := hprogress
  escape h := ⟨hs ▸ isBody_bodyRx x, hescape h⟩
  transmit := htx
  offer h := absurd (hs.symm.trans h) (bodyRx_ne_dispatch x)
  params := hparams

/-- An escape is pending only inside a frame (R26). -/
theorem BlockInv.noPending (h : BlockInv s) (hs : isBody s.rxState = false) : s.rxEpend = false := by
  cases hp : s.rxEpend with
  | false => rfl
  | true => exact absurd (h.escape hp).1 (by simp [hs])

/-- `RX_CNT` never passes `RX_LEN` (R28). -/
theorem BlockInv.rxCnt_le (h : BlockInv s) : s.rxCnt ≤ s.rxLen :=
  h.progress.1

end

/-! ### The state changes of the receive side -/

section
variable {s : State}

theorem BlockInv.openFrame (h : BlockInv s) : BlockInv (openFrame s) :=
  blockInv_of_bodyRx (x := .lenHi) rfl ⟨rfl, rfl, rfl⟩ (progressInv_lenHi rfl rfl rfl) (fun hp => nomatch hp)
    h.transmit h.params

theorem BlockInv.resync (h : BlockInv s) (x : BodyState) : BlockInv (resync x s) :=
  have hraised : BlockInv (raiseIncompleteFrame x .resync s) :=
    ⟨h.buffer, h.progress, h.escape, h.transmit, h.offer, h.params⟩
  hraised.openFrame

/-- The first half of an escape pair: in escaped mode an escape becomes pending (R103). -/
theorem BlockInv.escapePending (h : BlockInv s) {x : BodyState} (hs : s.rxState = bodyRx x) (he : s.rxLesc = true) :
    BlockInv { s with rxEpend := true } :=
  blockInv_of_bodyRx (x := x) hs h.buffer h.progress (fun _ => he) h.transmit h.params

theorem loByte_append (v b : Byte) : loByte (v ++ b) = b :=
  BitVec.extractLsb'_append_eq_right

/-- Without a pending escape nothing is asked of the mode. -/
theorem of_pending {P : Prop} (hp : s.rxEpend = false) (hp' : s.rxEpend = true) : P :=
  nomatch hp.symm.trans hp'

/-- Every accept rule starts from a state with no escape pending (R103). -/
theorem BlockInv.clearPending (h : BlockInv s) : BlockInv { s with rxEpend := false } :=
  ⟨h.buffer, h.progress, (fun hp => nomatch hp), h.transmit, h.offer, h.params⟩

/-- Nothing is received before the length is read. -/
theorem BlockInv.acceptLenHi (h : BlockInv s) (hs : s.rxState = .lenHi) (hp : s.rxEpend = false) (v : Byte) :
    BlockInv (acceptLenHi v s) := by
  obtain ⟨hle, hlen, -⟩ := h.progress
  have hcnt : s.rxCnt = 0 := by have := hlen hs; bv_omega
  exact blockInv_of_bodyRx (x := .lenLo) rfl h.buffer (progressInv_lenLo rfl hcnt (loByte_append v 0))
    (of_pending hp) h.transmit h.params

/-- The whole length decides between the frame data and, when there is none, the checksum (R106). -/
theorem BlockInv.acceptLenLo (h : BlockInv s) (hs : s.rxState = .lenLo) (hp : s.rxEpend = false) (v : Byte) :
    BlockInv (acceptLenLo v s) := by
  obtain ⟨-, -, hlenLo, -⟩ := h.progress
  have hcnt : s.rxCnt = 0 := (hlenLo hs).1
  by_cases hlen : (hiByte s.rxLen ++ v : Half) = 0
  · have hstate : (Machine.acceptLenLo v s).rxState = .checksum := if_pos hlen
    exact blockInv_of_bodyRx (x := .checksum) hstate h.buffer
      (progressInv_received (.inl hstate) (hcnt.trans hlen.symm)) (of_pending hp) h.transmit h.params
  · have hstate : (Machine.acceptLenLo v s).rxState = .payload := if_neg hlen
    have hlt : s.rxCnt < hiByte s.rxLen ++ v := hcnt ▸ (BitVec.pos_iff_ne_zero _).2 hlen
    exact blockInv_of_bodyRx (x := .payload) hstate h.buffer (progressInv_payload hstate hlt) (of_pending hp)
      h.transmit h.params

/-- The stored byte stands behind those received before it. -/
theorem BufferInv.write (h : BufferInv s) (hlt : s.rxCnt < s.rxLen) (v : Byte) (x : RxState) :
    BufferInv { s with
      pbuf := Memory.write s.rxCnt.toNat v s.pbuf
      rxSum := s.rxSum + v
      rxCnt := s.rxCnt + 1
      rxState := x } := by
  obtain ⟨hcells, hlength, hsum⟩ := h
  have hcells' : Memory.write s.rxCnt.toNat v s.pbuf = Memory.ofBytes 0 (pbufBytes s ++ [v]) := by
    rw [← Memory.write_ofBytes, Nat.zero_add, hlength, ← hcells]
  have hbytes : (Memory.write s.rxCnt.toNat v s.pbuf).map Prod.snd = pbufBytes s ++ [v] := by
    rw [hcells', Memory.ofBytes_bytes]
  have hnext : (s.rxCnt + 1).toNat = s.rxCnt.toNat + 1 := by bv_omega
  simp only [BufferInv, pbufBytes, hbytes]
  refine ⟨hcells', ?_, ?_⟩
  · rw [hnext, ← hlength, List.length_append, List.length_singleton]
    rfl
  · rw [hsum, sum8_append]
    simp [sum8, pbufBytes]

/-- The last byte of the frame data leaves the checksum to come (R107). -/
theorem BlockInv.acceptPayload (h : BlockInv s) (hs : s.rxState = .payload) (hp : s.rxEpend = false) (v : Byte) :
    BlockInv (acceptPayload v s) := by
  obtain ⟨-, -, -, hpayload, -⟩ := h.progress
  have hlt := hpayload hs
  rw [acceptPayload_of_lt v hlt]
  by_cases hlast : s.rxCnt + 1 = s.rxLen
  · rw [if_pos hlast]
    exact blockInv_of_bodyRx (x := .checksum) rfl (h.buffer.write hlt v _) (progressInv_received (.inl rfl) hlast)
      (of_pending hp) h.transmit h.params
  · have hlt' : s.rxCnt + 1 < s.rxLen := by bv_omega
    rw [if_neg hlast]
    exact blockInv_of_bodyRx (x := .payload) hs (h.buffer.write hlt v _) (progressInv_payload hs hlt') (of_pending hp)
      h.transmit h.params

theorem BlockInv.failChecksum (h : BlockInv s) (hp : s.rxEpend = false) (v : Byte) :
    BlockInv (goto .seek (raiseChecksumError v s)) :=
  blockInv_of_isOutside rfl h.buffer h.rxCnt_le hp h.transmit h.params

theorem BlockInv.rejectFrame (h : BlockInv s) (hp : s.rxEpend = false) (p : Bool) (ft : Byte) :
    BlockInv (rejectFrame p ft s) :=
  blockInv_of_isOutside rfl h.buffer h.rxCnt_le hp h.transmit h.params

/-- The offered frame is the one in the buffer, and its record is the dispatch record (R117). -/
theorem BlockInv.offerFrame (h : BlockInv s) (hs : s.rxState = .checksum) (hp : s.rxEpend = false) {ft : Byte}
    {r : List Byte} (hd : frameData s = some (ft :: r)) : BlockInv (offerFrame ft (ft :: r) s) where
  buffer := h.buffer
  progress := by
    obtain ⟨-, -, -, -, hchecksum, -⟩ := h.progress
    exact progressInv_received (.inr rfl) (hchecksum hs)
  escape := of_pending hp
  transmit := h.transmit
  offer _ := by
    have hbytes : pbufBytes s = ft :: r := Option.some.inj ((h.frameData_checksum hs).symm.trans hd)
    refine ⟨rfl, congrArg List.head? hbytes, ?_⟩
    change (s.disp ++ [_]).getLast? = some (.offer (deliverRec _ (pbufBytes s)))
    rw [List.getLast?_concat, hbytes]
    rfl
  params := h.params

theorem BlockInv.stopReceive (h : BlockInv s) (hs : isBody s.rxState = false) : BlockInv (stopReceive s) :=
  blockInv_of_isOutside rfl h.buffer h.rxCnt_le (h.noPending hs) h.transmit h.params

theorem BlockInv.closeFrame (h : BlockInv s) (x : BodyState) : BlockInv (closeFrame x s) :=
  blockInv_of_isOutside rfl h.buffer h.rxCnt_le rfl h.transmit h.params

theorem BlockInv.deliver (h : BlockInv s) (hs : s.rxState = .dispatch) (r : DispRecord) :
    BlockInv (goto .seek (emitDisp r s)) :=
  blockInv_of_isOutside rfl h.buffer h.rxCnt_le (h.noPending (by rw [hs]; rfl)) h.transmit h.params

theorem BlockInv.startReceive (h : BlockInv s) : BlockInv (goto .seek (clearReceive s)) :=
  blockInv_of_isOutside rfl ⟨rfl, rfl, rfl⟩ (BitVec.le_refl 0#16) rfl h.transmit h.params

theorem BlockInv.resetBlock (h : BlockInv s) : BlockInv (resetBlock s) :=
  blockInv_of_isOutside rfl ⟨rfl, rfl, rfl⟩ (BitVec.le_refl 0#16) rfl blockInv_reset.transmit h.params

/-! ### The state changes of the transmit side -/

/-- A frame is open after `TX_START` when it has bytes to come (R95). -/
theorem BlockInv.openTxFrame (h : BlockInv s) (len : Half) : BlockInv (openTxFrame len s) := by
  refine ⟨h.buffer, h.progress, h.escape, ?_, h.offer, h.params⟩
  change (if len = 0 then TxState.tIdle else .tPayload) = .tPayload ↔ len ≠ 0
  by_cases hlen : len = 0 <;> simp [hlen]

/-- A sent byte closes the frame when no byte is left (R96). -/
theorem BlockInv.sendTxByte (h : BlockInv s) (hs : s.txState = .tPayload) (b : Byte) : BlockInv (sendTxByte b s) := by
  refine ⟨h.buffer, h.progress, h.escape, ?_, h.offer, h.params⟩
  change (if s.txRem - 1 = 0 then TxState.tIdle else s.txState) = .tPayload ↔ s.txRem - 1 ≠ 0
  by_cases hrem : s.txRem - 1 = 0 <;> simp [hs]

end

/-! ### Every step -/

/-- Every state change of a port event keeps the invariant. -/
theorem Effect.blockInv {i : Instr} {s t : State} (he : Effect i s t) (hi : frameTypeOf i = Option.none)
    (h : BlockInv s) : BlockInv t := by
  cases he
  case none => exact h
  case opened => exact h.openFrame
  case resynced x _ _ _ _ => exact h.resync x
  case escaped x hs he _ => exact h.escapePending hs he
  case lenHi v hs => exact h.clearPending.acceptLenHi hs rfl v
  case lenLo v hs => exact h.clearPending.acceptLenLo hs rfl v
  case stored v hs => exact h.clearPending.acceptPayload hs rfl v
  case failed v _ _ => exact h.clearPending.failChecksum rfl v
  case passedEmpty => exact h.clearPending.rejectFrame rfl false 0
  case passedShort ft _ _ _ _ => exact h.clearPending.rejectFrame rfl true ft
  case passed hs hd _ => exact h.clearPending.offerFrame hs rfl hd
  case typeEmpty hft _ => simp [hi] at hft
  case typeShort hft _ _ _ => simp [hi] at hft
  case typeOffered hft _ _ _ => simp [hi] at hft
  case stopped hs => exact h.stopReceive (by rcases hs with hs | hs <;> rw [hs] <;> rfl)
  case closed x _ _ => exact h.closeFrame x
  case acked hs _ => exact h.deliver hs _
  case txOpened l _ _ => exact h.openTxFrame l
  case txSent b _ hs => exact h.sendTxByte hs b
  case started => exact h.startReceive
  case reset => exact h.resetBlock
  all_goals exact ⟨h.buffer, h.progress, h.escape, h.transmit, h.offer, h.params⟩

/-- The ports are no part of the invariant. -/
theorem BlockInv.consume {s : State} (h : BlockInv s) (p : Port) : BlockInv (consume p s) := by
  cases p <;> exact ⟨h.buffer, h.progress, h.escape, h.transmit, h.offer, h.params⟩

theorem frameTypeOf_of_isEvent {i : Instr} (h : isEvent i = true) : frameTypeOf i = none := by
  cases i <;> simp_all [isEvent, frameTypeOf]

/-- A step that gives a next state ran the head of the served port, or set `BADCMD` for a rejected one. -/
theorem step_next {s t : State} (h : step s = .next t) :
    ∃ p w rest, selectPort s = some p ∧ portQueue p s = w :: rest ∧
      ((∃ i, decodeEvent p w = .ok i ∧ exec i (consume p s) = .next t) ∨
       ((∃ e, decodeEvent p w = .error e) ∧ t = setBadcmd (consume p s))) := by
  rcases step_cases s with ⟨-, hfault⟩ | ⟨p, w, rest, hp, hq, hrun⟩
  · rw [hfault] at h
    cases h
  · refine ⟨p, w, rest, hp, hq, ?_⟩
    rw [hrun] at h
    cases hdecode : decodeEvent p w with
    | error e => exact .inr ⟨⟨e, rfl⟩, by rw [hdecode] at h; cases h; rfl⟩
    | ok i => exact .inl ⟨i, rfl, by rw [hdecode] at h; exact h⟩

/-- Settles O53: a step consumes a head, which the invariant does not see, and makes the state change of a port event or
sets `BADCMD`. -/
theorem everyStepKeepsTheInvariant : Obligations.EveryStepKeepsTheInvariant := by
  unfold Obligations.EveryStepKeepsTheInvariant
  intro s t h hstep
  obtain ⟨p, w, rest, -, -, ⟨i, hdecode, hexec⟩ | ⟨-, rfl⟩⟩ := step_next hstep
  · exact (exec_effect hexec).blockInv (frameTypeOf_of_isEvent (decodeEvent_ok hdecode).1) (h.consume p)
  · have hc := h.consume p
    exact ⟨hc.buffer, hc.progress, hc.escape, hc.transmit, hc.offer, hc.params⟩

end Sys2Proof.Machine
end

section
/-! SUPPORT. The step (spec/20_memory.md R51, R52): which port is served, what a step does to the ports, what lifts the
hold in `DISPATCH`, and that in a state of the invariant every served event completes. -/

namespace Sys2Proof.Machine

/-! ### The served port -/

theorem portEnabled_host (s : State) : portEnabled .host s = true ↔ s.host ≠ [] := by
  simp [portEnabled, portQueue]

theorem portEnabled_transport (s : State) :
    portEnabled .transport s = true ↔ s.transport ≠ [] ∧ s.rxState ≠ .dispatch := by
  simp [portEnabled, portQueue]

theorem selectPort_eq_none_iff (s : State) : selectPort s = none ↔ ∀ p, portEnabled p s = false := by
  constructor
  · intro h p
    unfold selectPort at h
    split at h
    · cases p <;> assumption
    · cases h
    · cases h
    · split at h <;> cases h
  · intro h
    simp [selectPort, h]

/-- Settles O52: when a head is enabled, and that the selection answers an enabled port if there is one. -/
theorem enabledHeadsAreServed : Obligations.EnabledHeadsAreServed := by
  unfold Obligations.EnabledHeadsAreServed
  exact fun s => ⟨portEnabled_host s, portEnabled_transport s, fun _ => selectPort_enabled, selectPort_eq_none_iff s⟩

theorem consume_eq {p : Port} {s : State} {w : Word} {rest : List Word} (hq : portQueue p s = w :: rest) :
    consume p s =
      { s with
        transport := if p = .transport then rest else s.transport
        host := if p = .host then rest else s.host
        turn := s.turn + 1 } := by
  cases p with
  | transport =>
    have htail : s.transport.tail = rest := congrArg List.tail hq
    simp [consume, htail]
  | host =>
    have htail : s.host.tail = rest := congrArg List.tail hq
    simp [consume, htail]

/-- Settles O50: the step of a served head that decodes, and consuming written out. -/
theorem stepRunsTheDecodedInstruction : Obligations.StepRunsTheDecodedInstruction := by
  unfold Obligations.StepRunsTheDecodedInstruction
  exact fun s p w rest i hp hq hdecode => ⟨step_of_decodeEvent_ok hp hq hdecode, consume_eq hq⟩

/-! ### What no event touches -/

/-- The ports, the count of consumed events and the parameters (R51, R172). -/
theorem Effect.inputs {i : Instr} {s t : State} (he : Effect i s t) :
    t.transport = s.transport ∧ t.host = s.host ∧ t.turn = s.turn ∧ t.params = s.params := by
  cases he
  case stored => unfold acceptPayload; split <;> exact ⟨rfl, rfl, rfl, rfl⟩
  all_goals exact ⟨rfl, rfl, rfl, rfl⟩

/-- A step only takes the served head off its port and counts it. -/
theorem step_inputs {s t : State} (h : step s = .next t) :
    ∃ p w rest, selectPort s = some p ∧ portQueue p s = w :: rest ∧
      t.transport = (consume p s).transport ∧ t.host = (consume p s).host ∧ t.turn = s.turn + 1 := by
  obtain ⟨p, w, rest, hp, hq, hrun⟩ := step_next h
  have hturn : (consume p s).turn = s.turn + 1 := by cases p <;> rfl
  refine ⟨p, w, rest, hp, hq, ?_⟩
  rcases hrun with ⟨i, -, hexec⟩ | ⟨-, rfl⟩
  · obtain ⟨htransport, hhost, hcount, -⟩ := (exec_effect hexec).inputs
    exact ⟨htransport, hhost, hcount.trans hturn⟩
  · exact ⟨rfl, rfl, hturn⟩

/-- Settles O51: the served port has an enabled head, which is what it loses. -/
theorem stepConsumesOneHead : Obligations.StepConsumesOneHead := by
  unfold Obligations.StepConsumesOneHead
  intro s t h
  obtain ⟨p, w, rest, hp, hq, htransport, hhost, hturn⟩ := step_inputs h
  have henabled := selectPort_enabled hp
  rw [consume_eq hq] at htransport hhost
  cases p with
  | transport =>
    exact ⟨.transport, .host, w, by decide, henabled, hq.trans (congrArg (w :: ·) htransport.symm), hhost, hturn⟩
  | host =>
    exact ⟨.host, .transport, w, by decide, henabled, hq.trans (congrArg (w :: ·) hhost.symm), htransport, hturn⟩

/-! ### The hold in `DISPATCH` -/

theorem selectPort_dispatch {s : State} {p : Port} (hs : s.rxState = .dispatch) (hp : selectPort s = some p) :
    p = .host := by
  cases p with
  | host => rfl
  | transport => exact absurd hp (selectPort_ne_transport hs)

theorem exec_rxClose_held {s : State} (hs : s.rxState = .dispatch) : exec .rxClose s = .fault .transportHeld := by
  simp only [exec, execRxClose, hs]

/-- Of the port events only an acknowledge and reset leave `DISPATCH`. -/
theorem Effect.leaves_dispatch {i : Instr} {s t : State} (he : Effect i s t) (hi : frameTypeOf i = Option.none)
    (hs : s.rxState = .dispatch) (ht : t.rxState ≠ .dispatch) : i = .softReset ∨ ∃ c, i = .dispatchAck c := by
  cases he
  case reset hreset => exact .inl hreset
  case acked c _ hack _ _ => exact .inr ⟨c, hack⟩
  case opened h _ | skipped h | lenHi h | lenLo h | stored h | failed h _ | passedEmpty h _ | passedShort h _ _ |
      passed h _ _ | stopped _ h | started _ h => simp [hs] at h
  case resynced x h _ _ _ | closed x _ h => exact absurd (h.symm.trans hs) (bodyRx_ne_dispatch x)
  case typeEmpty h _ | typeShort h _ _ _ | typeOffered h _ _ _ => simp [hi] at h
  all_goals exact absurd hs ht

theorem step_leaves_dispatch {s t : State} (hs : s.rxState = .dispatch) (h : step s = .next t)
    (ht : t.rxState ≠ .dispatch) : ∃ w rest, s.host = w :: rest ∧
      (decodeEvent .host w = .ok .softReset ∨ ∃ c, decodeEvent .host w = .ok (.dispatchAck c)) := by
  obtain ⟨p, w, rest, hp, hq, hrun⟩ := step_next h
  obtain rfl := selectPort_dispatch hs hp
  refine ⟨w, rest, hq, ?_⟩
  rcases hrun with ⟨i, hdecode, hexec⟩ | ⟨-, rfl⟩
  · obtain rfl | ⟨c, rfl⟩ :=
      (exec_effect hexec).leaves_dispatch (frameTypeOf_of_isEvent (decodeEvent_ok hdecode).1) hs ht
    · exact .inl hdecode
    · exact .inr ⟨c, hdecode⟩
  · exact absurd hs ht

/-- With the TRANSPORT port alone waiting in `DISPATCH` no head is enabled (R182). -/
theorem step_held {s : State} (hs : s.rxState = .dispatch) (hhost : s.host = []) (htransport : s.transport ≠ []) :
    step s = .fault .transportHeld := by
  rcases step_cases s with ⟨-, hfault⟩ | ⟨p, w, rest, hp, hq, -⟩
  · simpa [stalled, htransport] using hfault
  · obtain rfl := selectPort_dispatch hs hp
    exact absurd (hhost.symm.trans hq) (by simp)

/-- Settles O19: in `DISPATCH` only the HOST port is served, and of its events only an acknowledge and reset end it. -/
theorem transportIsHeldInDispatch : Obligations.TransportIsHeldInDispatch := by
  unfold Obligations.TransportIsHeldInDispatch
  intro s hs
  refine ⟨selectPort_ne_transport hs, step_held hs, fun t hstep => ⟨?_, step_leaves_dispatch hs hstep⟩,
    fun i b hb => ?_, exec_rxClose_held hs⟩
  · obtain ⟨p, w, rest, hp, -, htransport, -⟩ := step_inputs hstep
    obtain rfl := selectPort_dispatch hs hp
    exact htransport
  · obtain ⟨f, g, hrec⟩ := exec_wireByte_receive hb
    rw [hrec, receive_held hs]

/-! ### Every served event completes -/

section
variable {s : State}

/-- In `CHECKSUM` the frame data can be read, so a passing checksum is validated. -/
theorem BlockInv.acceptValue_completes (h : BlockInv s) {x : BodyState} (hs : s.rxState = bodyRx x) (v : Byte) :
    ∃ t, acceptValue x v s = .next t := by
  cases x with
  | lenHi => exact ⟨_, rfl⟩
  | lenLo => exact ⟨_, rfl⟩
  | payload => exact ⟨_, rfl⟩
  | checksum =>
    simp only [acceptValue, acceptChecksum]
    split
    · exact ⟨_, validate_of_frameData (s := { s with rxEpend := false }) (h.frameData_checksum hs)⟩
    · exact ⟨_, rfl⟩

theorem seekByte_completes (b : Byte) (s : State) : ∃ t, seekByte b s = .next t := by
  unfold seekByte
  split <;> exact ⟨_, rfl⟩

theorem BlockInv.bodyByte_completes (h : BlockInv s) {x : BodyState} (hs : s.rxState = bodyRx x) (b : Byte) :
    ∃ t, bodyByte b x s = .next t := by
  unfold bodyByte
  split
  · exact ⟨_, rfl⟩
  · split
    · exact ⟨_, rfl⟩
    · exact h.acceptValue_completes hs _

theorem BlockInv.execRxByte_completes (h : BlockInv s) (hs : s.rxState ≠ .dispatch) (b : Byte) :
    ∃ t, execRxByte b s = .next t := by
  rw [execRxByte_eq]
  rcases receive_cases s with hx | hx | hx | ⟨x, hx⟩
  · exact ⟨s, receive_discard hx⟩
  · exact receive_seek hx ▸ seekByte_completes b s
  · exact absurd hx hs
  · exact receive_body hx ▸ h.bodyByte_completes hx b

theorem execRxClose_completes (hs : s.rxState ≠ .dispatch) : ∃ t, execRxClose s = .next t := by
  unfold execRxClose
  split
  case h_2 hx => exact absurd hx hs
  all_goals exact ⟨_, rfl⟩

theorem BlockInv.exec_dispatchAck_completes (h : BlockInv s) (c : Bool) : ∃ t, exec (.dispatchAck c) s = .next t := by
  by_cases hs : s.rxState = .dispatch
  · exact ⟨_, exec_dispatchAck_offered c hs (h.drecData_dispatch hs)⟩
  · exact ⟨_, exec_dispatchAck_outside c hs⟩

/-- In a state of the invariant every port event completes, but for a held one. -/
theorem BlockInv.exec_completes (h : BlockInv s) {i : Instr} (hi : isEvent i = true)
    (hheld : s.rxState = .dispatch → (∀ b, i ≠ .rxByte b) ∧ i ≠ .rxClose) : ∃ t, exec i s = .next t := by
  cases i
  case rxByte b => exact h.execRxByte_completes (fun hs => (hheld hs).1 b rfl) b
  case rxClose => exact execRxClose_completes fun hs => (hheld hs).2 rfl
  case dispatchAck c => exact h.exec_dispatchAck_completes c
  case txStart l => exact ⟨_, execTxStart_eq l s⟩
  case txData b => exact ⟨_, execTxData_eq b s⟩
  case csrWrite a d => exact ⟨_, execCsrWrite_eq a d s⟩
  case csrRead a => exact ⟨_, execCsrRead_eq a s⟩
  case start => exact ⟨_, execStart_eq s⟩
  case nop | csrWriteCtrl | csrWriteStatus | softReset | reservedAB | reservedCF => exact ⟨_, rfl⟩
  all_goals cases hi

/-- In a state of the invariant a step stalls when no port is served, and otherwise completes. -/
theorem BlockInv.step_outcome (h : BlockInv s) :
    (selectPort s = none ∧ step s = .fault (stalled s)) ∨ (selectPort s ≠ none ∧ ∃ t, step s = .next t) := by
  rcases step_cases s with hnone | ⟨p, w, rest, hp, hq, hrun⟩
  · exact .inl hnone
  · refine .inr ⟨by simp [hp], ?_⟩
    cases hdecode : decodeEvent p w with
    | error e => exact ⟨_, step_of_decodeEvent_error hp hq hdecode⟩
    | ok i =>
      obtain ⟨hevent, hhost⟩ := decodeEvent_ok hdecode
      have hstate : (Machine.consume p s).rxState = s.rxState := by cases p <;> rfl
      rw [step_of_decodeEvent_ok hp hq hdecode]
      exact (h.consume p).exec_completes hevent fun hs => hhost (selectPort_dispatch (hstate.symm.trans hs) hp)

end

theorem runEnded_iff (s : State) : runEnded s = true ↔ s.host = [] ∧ (s.transport = [] ∨ s.rxState = .dispatch) := by
  simp [runEnded]

/-- No port is served exactly when the run has ended (R182). -/
theorem selectPort_eq_none_iff_runEnded (s : State) : selectPort s = none ↔ runEnded s = true := by
  have hhost : portEnabled .host s = false ↔ s.host = [] := by
    rw [← Bool.not_eq_true, portEnabled_host, not_not]
  have htransport : portEnabled .transport s = false ↔ s.transport = [] ∨ s.rxState = .dispatch := by
    rw [← Bool.not_eq_true, portEnabled_transport, not_and_or, not_not, not_not]
  rw [selectPort_eq_none_iff, runEnded_iff, ← hhost, ← htransport]
  exact ⟨fun h => ⟨h .host, h .transport⟩, fun ⟨hh, ht⟩ p => by cases p <;> assumption⟩

theorem stalled_eq (s : State) : stalled s = if s.transport = [] then .endOfRun else .transportHeld := by
  simp [stalled]

/-- Settles O55: a step of a run that has not ended completes, and one of an ended run says how it ended. -/
theorem runsEndOnlyWhenNoHeadIsEnabled : Obligations.RunsEndOnlyWhenNoHeadIsEnabled := by
  unfold Obligations.RunsEndOnlyWhenNoHeadIsEnabled
  intro s h
  rcases h.step_outcome with ⟨hnone, hstep⟩ | ⟨hsome, t, hstep⟩
  · have hended := (selectPort_eq_none_iff_runEnded s).1 hnone
    obtain ⟨hhost, hwait⟩ := (runEnded_iff s).1 hended
    rw [hstep, stalled_eq, hended]
    by_cases htransport : s.transport = []
    · simp [htransport, hhost]
    · simp [htransport, hhost, hwait.resolve_left htransport]
  · have hrunning : ¬(s.host = [] ∧ (s.transport = [] ∨ s.rxState = .dispatch)) := fun hended =>
      hsome ((selectPort_eq_none_iff_runEnded s).2 ((runEnded_iff s).2 hended))
    have hended : runEnded s = false := Bool.eq_false_iff.2 (mt (runEnded_iff s).1 hrunning)
    rw [hstep, hended]
    exact ⟨by simp, ⟨nofun, fun ⟨ht, hh⟩ => absurd ⟨hh, .inl ht⟩ hrunning⟩,
      ⟨nofun, fun ⟨hh, _, hd⟩ => absurd ⟨hh, .inr hd⟩ hrunning⟩, nofun, nofun⟩

end Sys2Proof.Machine
end

section
/-! SUPPORT. Frames in escaped mode and the reference decoder (spec/30_encoding.md section 1, spec/40_bytecodec.md
section 3): the length of an escaped sequence, the values taken from one, and the two length bytes. -/

namespace Sys2Proof.Machine

/-! ### The length of an escaped sequence -/

theorem escByte_true_length (v : Byte) : 1 ≤ (escByte v true).length ∧ (escByte v true).length ≤ 2 := by
  obtain ⟨hw, -⟩ | ⟨hw, -⟩ := escByte_true_cases v <;> simp [hw]

theorem escape_true_length (s : List Byte) :
    s.length ≤ (escape s true).length ∧ (escape s true).length ≤ 2 * s.length := by
  induction s with
  | nil => simp [escape]
  | cons v t ih =>
    have hv := escByte_true_length v
    simp only [escape, List.length_append, List.length_cons]
    omega

/-- Settles O10: after the delimiter the frame is the escape of its two length bytes, its data and its checksum. -/
theorem escapedFrameLength : Obligations.EscapedFrameLength := by
  unfold Obligations.EscapedFrameLength
  intro d _
  have hbody := escape_true_length (be16 (BitVec.ofNat 16 d.length) ++ d ++ [cksum d])
  have hlength : (be16 (BitVec.ofNat 16 d.length) ++ d ++ [cksum d]).length = d.length + 3 := by
    simp [be16]
  rw [hlength] at hbody
  rw [frame, List.length_cons]
  omega

/-! ### The values taken from an escaped sequence -/

/-- A byte that opens no escape pair is taken as it is (R90). -/
theorem takeValue_cons {v : Byte} {e : Bool} (h : ¬(e = true ∧ v = Config.esc)) (t : List Byte) :
    takeValue (v :: t) e = some (v, t) := by
  cases t with
  | nil => simp [takeValue, h]
  | cons x t => simp [takeValue, h]

/-- An escape byte takes the byte after it, if there is one (R90). -/
theorem takeValue_esc (t : List Byte) :
    takeValue (Config.esc :: t) true = t.head?.map fun x => (x ^^^ Config.escMask, t.tail) := by
  cases t <;> simp [takeValue]

/-- What is written for one byte is taken as that byte: the mask cancels itself in a pair. -/
theorem takeValue_escByte_append (v : Byte) (e : Bool) (t : List Byte) :
    takeValue (escByte v e ++ t) e = some (v, t) := by
  cases e with
  | false => exact escByte_false v ▸ takeValue_cons (by simp) t
  | true =>
    obtain ⟨hw, -⟩ | ⟨hw, hv⟩ := escByte_true_cases v <;> rw [hw]
    · refine (takeValue_esc _).trans ?_
      simp
    · have hesc : v ≠ Config.esc := fun h => hv (h ▸ by decide)
      exact takeValue_cons (fun h => hesc h.2) t

theorem takeValues_escape_append (d : List Byte) (e : Bool) (t : List Byte) :
    takeValues d.length (escape d e ++ t) e = some (d, t) := by
  induction d with
  | nil => rfl
  | cons v d ih =>
    rw [escape, List.append_assoc, List.length_cons, takeValues, takeValue_escByte_append]
    simp only [ih]

theorem hiByte_append_loByte (v : Half) : hiByte v ++ loByte v = v := by
  have hlow : (loByte v).toNat = v.toNat % 256 := by
    rw [loByte, BitVec.extractLsb'_toNat, Nat.shiftRight_zero]
  apply BitVec.eq_of_toNat_eq
  rw [toNat_append_byte, toNat_hiByte, hlow, Nat.div_add_mod]

/-- A frame by its parts, with what follows it (R89). -/
theorem frame_append (d r : List Byte) (e : Bool) :
    frame d e ++ r =
      Config.delim :: (escape (be16 (BitVec.ofNat 16 d.length)) e ++ (escape d e ++ (escByte (cksum d) e ++ r))) := by
  rw [frame, escape_append, escape_append, escape_singleton, List.cons_append, List.append_assoc, List.append_assoc]

/-- `DEFRAME` of an input that has the length, the data and the checksum (R90). -/
theorem deframeBody_of_takeValues {t t₁ t₂ t₃ d : List Byte} {e : Bool} {len : Half} {c : Byte}
    (hlen : takeValues 2 t e = some (be16 len, t₁)) (hdata : takeValues len.toNat t₁ e = some (d, t₂))
    (hcksum : takeValue t₂ e = some (c, t₃)) :
    deframeBody t e = if verify d c then .ok d t₃ else .checksumError t₃ := by
  rw [be16] at hlen
  simp only [deframeBody, hlen, hiByte_append_loByte, hdata, hcksum]

/-- Settles O11: the decoder takes the two length bytes, the data and the checksum it finds in the frame. -/
theorem deframeUndoesFrame : Obligations.DeframeUndoesFrame := by
  unfold Obligations.DeframeUndoesFrame
  intro d r e hlen
  have hn : (BitVec.ofNat 16 d.length).toNat = d.length := Nat.mod_eq_of_lt (by omega)
  have hverify : verify d (cksum d) = true := (verify_iff_eq_cksum d _).2 rfl
  rw [frame_append, deframe, if_pos rfl, deframeBody_of_takeValues (takeValues_escape_append (be16 _) e _)
    (hn.symm ▸ takeValues_escape_append d e _) (takeValue_escByte_append _ e r), if_pos hverify]

/-- Settles O12: two bytes are a number in base 256, and the padding byte is its digit 0. -/
theorem bigEndianLength : Obligations.BigEndianLength := by
  unfold Obligations.BigEndianLength
  have hpair (h l : Byte) : (h ++ l : Half) = BitVec.ofNat 16 (256 * h.toNat + l.toNat) := by
    have hlt : 256 * h.toNat + l.toNat < 2 ^ 16 := by omega
    exact BitVec.eq_of_toNat_eq ((toNat_append_byte h l).trans (Nat.mod_eq_of_lt hlt).symm)
  have hpad (l : Byte) : (0x00#8 ++ l : Half) = BitVec.ofNat 16 l.toNat :=
    (hpair 0 l).trans (congrArg (BitVec.ofNat 16) (Nat.zero_add _))
  exact ⟨fun v => ⟨rfl, congrArg some (hiByte_append_loByte v)⟩, fun h l => congrArg some (hpair h l),
    fun l => congrArg some (hpad l), rfl⟩

/-- Settles O48: the three rules of the buffer. -/
theorem bufferReadsWhatWasWritten : Obligations.BufferReadsWhatWasWritten := by
  unfold Obligations.BufferReadsWhatWasWritten
  exact fun m a b hm => ⟨Memory.read_write_same m a b, fun k hk => Memory.read_write_other m b hk, Memory.write_wf b hm⟩

end Sys2Proof.Machine
end

section
/-! SUPPORT. The receive deframer by rule (spec/42_rx_deframer.md R103, R108, R109, R111) and what no event takes back
(spec/10_state.md R38): the body bytes, the checksum, the close, where an error leaves the receiver, and the streams. -/

namespace Sys2Proof.Machine

/-! ### Body bytes and the checksum -/

/-- Settles O20: the three branches of what a byte does in a body state. -/
theorem bodyBytesAreUnescaped : Obligations.BodyBytesAreUnescaped := by
  unfold Obligations.BodyBytesAreUnescaped
  intro i b x s hwf hb hs
  have hbody : exec i s = bodyByte b x s := exec_wireByte_body hwf hb hs
  refine ⟨?resync, ?escape, fun hv => hbody.trans (bodyByte_value x hv)⟩
  case resync =>
    rintro ⟨he, hr, rfl⟩
    exact hbody.trans (bodyByte_resync x he hr)
  case escape =>
    rintro ⟨he, hp, rfl⟩
    exact hbody.trans (bodyByte_escape x he hp)

/-- A value byte in `CHECKSUM` goes to the accept rule with no escape pending (R103, R108). -/
theorem exec_checksumByte {i : Instr} {b : Byte} {s : State} (hwf : i.wf = true) (hb : wireByteOf i = some b)
    (hs : s.rxState = .checksum) (hv : takesValue b s) :
    exec i s = acceptChecksum (valueByte b s) { s with rxEpend := false } :=
  exec_valueByte (x := .checksum) hwf hb hs hv

/-- Settles O25: the two branches of the accept rule of `CHECKSUM`. -/
theorem checksumByteIsVerified : Obligations.ChecksumByteIsVerified := by
  unfold Obligations.ChecksumByteIsVerified
  intro i b s hwf hb hs hv
  rw [exec_checksumByte hwf hb hs hv]
  exact ⟨fun hpass => if_pos hpass, fun hfail => if_neg hfail⟩

/-- Settles O27: both sides choose the row by the same comparisons of the byte. -/
theorem rxByteRunsItsClassRow : Obligations.RxByteRunsItsClassRow := by
  unfold Obligations.RxByteRunsItsClassRow
  intro b s
  change execRxByte b s = exec (decodeWireByte b) s
  simp only [execRxByte, decodeWireByte, apply_ite (exec · s)]
  rfl

/-! ### The close -/

theorem exec_rxClose_body {s : State} {x : BodyState} (hs : s.rxState = bodyRx x) :
    exec .rxClose s = .next (closeFrame x s) := by
  cases x <;> simp only [exec, execRxClose, hs, bodyRx]

theorem exec_rxClose_outside {s : State} (hs : s.rxState = .idle ∨ s.rxState = .seek) :
    exec .rxClose s = .next (stopReceive s) := by
  rcases hs with hs | hs <;> simp only [exec, execRxClose, hs]

theorem closeFrame_eq (x : BodyState) (s : State) :
    closeFrame x s =
      { s with
        evt := s.evt ++ [.incompleteFrame x s.rxEpend .close, .connectionLost]
        cntIncomplete := s.cntIncomplete + 1
        rxEpend := false
        connlost := true
        rxState := .stopped } := by
  have hevt : s.evt ++ [.incompleteFrame x s.rxEpend .close, .connectionLost] =
      s.evt ++ [.incompleteFrame x s.rxEpend .close] ++ [.connectionLost] := List.append_cons ..
  rw [hevt]
  rfl

/-- Settles O26: the word decodes by evaluation, and a close acts by the receive state. -/
theorem closeStopsTheReceiver : Obligations.CloseStopsTheReceiver := by
  unfold Obligations.CloseStopsTheReceiver
  refine ⟨rfl, fun s => ⟨fun hs => ?_, exec_rxClose_held, exec_rxClose_outside, fun x hs => ?_⟩⟩
  · simp only [exec, execRxClose, hs]
  · rw [← closeFrame_eq]
    exact exec_rxClose_body hs

/-! ### Where an event leaves the receiver -/

theorem acceptPayload_evt (v : Byte) (s : State) : (acceptPayload v s).evt = s.evt := by
  unfold acceptPayload
  split <;> rfl

theorem acceptPayload_rxState (v : Byte) (s : State) :
    (acceptPayload v s).rxState = s.rxState ∨ (acceptPayload v s).rxState = .checksum := by
  unfold acceptPayload
  split
  · rw [goto_rxState]
    split
    · exact .inr rfl
    · exact .inl rfl
  · exact .inl rfl

theorem acceptLenLo_rxState (v : Byte) (s : State) :
    (acceptLenLo v s).rxState = .checksum ∨ (acceptLenLo v s).rxState = .payload := by
  simp only [acceptLenLo, goto_rxState]
  split
  · exact .inl rfl
  · exact .inr rfl

/-- Only a close reaches `STOPPED` (R111). -/
theorem Effect.reaches_stopped {i : Instr} {s t : State} (he : Effect i s t) (ht : t.rxState = .stopped) :
    s.rxState = .stopped ∨ i = .rxClose := by
  cases he
  case stopped hi _ | closed hi _ => exact .inr hi
  case lenLo v _ => rcases acceptLenLo_rxState v { s with rxEpend := false } with h | h <;> simp [h] at ht
  case stored v hs =>
    rcases acceptPayload_rxState v { s with rxEpend := false } with h | h
    · exact .inl (h.symm.trans ht)
    · simp [h] at ht
  case none | escaped | badcmd | txerr | txOpened | txSent | ctrl | sticky | csro | csroBad | skipped => exact .inl ht
  all_goals cases ht

/-- Where an error leaves the receiver: it goes on (R111). -/
def leavesRunning (e : EvtRecord) (x : RxState) : Prop :=
  match e with
  | .invalidDelimiter _ => x = .seek
  | .checksumError _ _ _ => x = .seek
  | .malformedPacket _ _ _ => x = .seek
  | .incompleteFrame _ _ c => c = .resync ∧ x = .lenHi
  | .connectionLost => False

theorem Effect.error_leavesRunning {i : Instr} {s t : State} (he : Effect i s t) (hi : i ≠ .rxClose) {e : EvtRecord}
    (hevt : t.evt = s.evt ++ [e]) : leavesRunning e t.rxState := by
  have hlast {e' : EvtRecord} (h : s.evt ++ [e'] = s.evt ++ [e]) : e' = e := by simpa using h
  have hnone (h : s.evt = s.evt ++ [e]) : False := by simp at h
  cases he
  case skipped b hs => obtain rfl := hlast hevt; exact hs
  case resynced => obtain rfl := hlast hevt; exact ⟨rfl, rfl⟩
  case failed | passedEmpty | passedShort | typeEmpty | typeShort => obtain rfl := hlast hevt; rfl
  case stopped hclose _ | closed hclose _ => exact absurd hclose hi
  case stored v _ => exact (hnone ((acceptPayload_evt v { s with rxEpend := false }).symm.trans hevt)).elim
  all_goals exact (hnone hevt).elim

/-- Settles O28: what each state change does to `EVT` and to `RX_STATE`. -/
theorem framingErrorsAreNotFatal : Obligations.FramingErrorsAreNotFatal := by
  unfold Obligations.FramingErrorsAreNotFatal
  refine ⟨fun i s t h ht => (exec_effect h).reaches_stopped ht, fun i s t e hi h hevt => ?_⟩
  have hrunning := (exec_effect h).error_leavesRunning hi hevt
  cases e <;> exact hrunning

/-! ### The streams -/

/-- From `s` to `t` the four streams only grew. -/
structure Grew (s t : State) : Prop where
  txo : s.txo <+: t.txo
  evt : s.evt <+: t.evt
  disp : s.disp <+: t.disp
  csro : s.csro <+: t.csro

theorem acceptPayload_grew (v : Byte) (s : State) : Grew s (acceptPayload v s) := by
  unfold acceptPayload
  split <;> exact ⟨List.prefix_rfl, List.prefix_rfl, List.prefix_rfl, List.prefix_rfl⟩

theorem closeFrame_grew (x : BodyState) (s : State) : Grew s (closeFrame x s) := by
  rw [closeFrame_eq]
  exact ⟨List.prefix_rfl, List.prefix_append .., List.prefix_rfl, List.prefix_rfl⟩

theorem Effect.grew {i : Instr} {s t : State} (he : Effect i s t) : Grew s t := by
  cases he
  case stored v _ =>
    obtain ⟨htxo, hevt, hdisp, hcsro⟩ := acceptPayload_grew v { s with rxEpend := false }
    exact ⟨htxo, hevt, hdisp, hcsro⟩
  case closed x _ _ => exact closeFrame_grew x s
  case skipped | resynced | failed | passedEmpty | passedShort | typeEmpty | typeShort | stopped =>
    exact ⟨List.prefix_rfl, List.prefix_append .., List.prefix_rfl, List.prefix_rfl⟩
  case passed | typeOffered | acked =>
    exact ⟨List.prefix_rfl, List.prefix_rfl, List.prefix_append .., List.prefix_rfl⟩
  case txOpened | txSent => exact ⟨List.prefix_append .., List.prefix_rfl, List.prefix_rfl, List.prefix_rfl⟩
  case csro | csroBad => exact ⟨List.prefix_rfl, List.prefix_rfl, List.prefix_rfl, List.prefix_append ..⟩
  all_goals exact ⟨List.prefix_rfl, List.prefix_rfl, List.prefix_rfl, List.prefix_rfl⟩

/-- Settles O47: every state change appends to streams or leaves them, and leaves the ports and the parameters. -/
theorem streamsOnlyGrow : Obligations.StreamsOnlyGrow := by
  unfold Obligations.StreamsOnlyGrow
  intro i s t h
  obtain ⟨htransport, hhost, -, hparams⟩ := (exec_effect h).inputs
  obtain ⟨htxo, hevt, hdisp, hcsro⟩ := (exec_effect h).grew
  exact ⟨htxo, hevt, hdisp, hcsro, hparams, htransport, hhost⟩

end Sys2Proof.Machine
end

section
/-! SUPPORT. The dispatcher (spec/43_dispatcher.md sections 1, 2 and 4, spec/20_memory.md R53): the discovery predicate,
what `CLASSIFY` answers for a type inside and outside the table, the outcome of a checksum byte, and the pairing of
`Offer` and `Deliver`. -/

namespace Sys2Proof.Machine

/-! ### The discovery predicate and `CLASSIFY` -/

theorem clauseHolds_iff {c : DiscoveryClause} {ft : Byte} {d : List Byte} :
    clauseHolds c ft d = true ↔ ft = c.ft ∧ c.minLen ≤ d.length ∧ (∀ m, c.maxLen = some m → d.length ≤ m) ∧
      ∀ q ∈ c.bytes, d[q.1]? = some q.2 := by
  simp [clauseHolds, Option.all_eq_true, and_assoc]

theorem isDiscovery_iff {p : Params} {ft : Byte} {d : List Byte} :
    isDiscovery p ft d = true ↔ ∃ c ∈ p.discovery, ft = c.ft ∧ c.minLen ≤ d.length ∧
      (∀ m, c.maxLen = some m → d.length ≤ m) ∧ ∀ q ∈ c.bytes, d[q.1]? = some q.2 := by
  simp only [isDiscovery, List.any_eq_true, clauseHolds_iff]

/-- Settles O34: the table and the dual kinds by evaluation, the predicate by its one clause. -/
theorem defaultFrameTypes_spec : Obligations.DefaultFrameTypes := by
  unfold Obligations.DefaultFrameTypes
  refine ⟨by decide, rfl, by decide, fun ft d => ?_, rfl⟩
  rw [isDiscovery_iff]
  simp only [defaultParams, defaultDiscovery, List.mem_singleton, exists_eq_left, List.forall_mem_cons,
    forall_eq, reduceCtorEq, false_implies, implies_true, true_and]

theorem classifyAs_discovery {p : Params} {ft : Byte} {d : List Byte} (h : isDiscovery p ft d = true) :
    (classifyAs p ft d).kind = .discovery :=
  if_pos h

section
variable {p : Params} {ft : Byte} {d : List Byte}

/-- A frame whose type has an entry (R115). -/
theorem classifyAs_known {e : FrameType} (he : p.frameType ft = some e) :
    (classifyAs p ft d).known = true ∧ (isDiscovery p ft d = false → (classifyAs p ft d).kind = e.kind) ∧
      ((classifyAs p ft d).fidv = true ↔ e.hasFid = true ∧ 2 ≤ d.length) := by
  refine ⟨?known, fun h => ?kind, ?fidv⟩ <;> simp only [classifyAs, he]
  case known => rfl
  case kind => exact if_neg (by simp [h])
  case fidv => simp

/-- A frame whose type has no entry (R115, R121). -/
theorem classifyAs_unknown (he : p.frameType ft = none) :
    (classifyAs p ft d).known = false ∧ (isDiscovery p ft d = false → (classifyAs p ft d).kind = .generic) ∧
      (classifyAs p ft d).fidv = false := by
  refine ⟨?known, fun h => ?kind, ?fidv⟩ <;> simp only [classifyAs, he]
  case known => rfl
  case kind => exact if_neg (by simp [h])
  case fidv => rfl

theorem classifyAs_noFid (h : (classifyAs p ft d).fidv = false) : (classifyAs p ft d).fid = 0 :=
  if_neg (Bool.eq_false_iff.1 h)

end

/-- The frame id is the second byte of the frame data (D30). -/
theorem classifyAs_fid {p : Params} {ft : Byte} {t : List Byte} (h : (classifyAs p ft (ft :: t)).fidv = true) :
    t.head? = some (classifyAs p ft (ft :: t)).fid := by
  have hfid : (classifyAs p ft (ft :: t)).fid = t.getD 0 0 := if_pos h
  have hlen : 2 ≤ (ft :: t).length := of_decide_eq_true (Bool.and_elim_right h)
  cases t with
  | nil => simp at hlen
  | cons x r => rw [hfid]; rfl

theorem two_le_length_cons {a : Byte} {t : List Byte} : 2 ≤ (a :: t).length ↔ t ≠ [] := by
  cases t <;> simp

theorem Params.frameType_eq_none {p : Params} {ft : Byte} (h : ∀ e, (ft, e) ∉ p.frameTypes) :
    p.frameType ft = none :=
  Option.eq_none_iff_forall_ne_some.2 fun e he => h e (lookup_eq_some he)

/-- Settles O32: the clauses of the predicate, and `CLASSIFY` by the entry that the finite map has for the type. -/
theorem classifyFollowsTheTable : Obligations.ClassifyFollowsTheTable := by
  unfold Obligations.ClassifyFollowsTheTable
  refine ⟨fun p ft d => isDiscovery_iff, fun p ft t hp => ⟨classifyAs p ft (ft :: t), rfl, classifyAs_discovery,
    fun e he => ?_, fun he => classifyAs_unknown (Params.frameType_eq_none he), classifyAs_fid, classifyAs_noFid⟩⟩
  rw [← two_le_length_cons (a := ft)]
  exact classifyAs_known ((Params.frameType_eq_some_iff hp).2 he)

/-! ### The outcome of a checksum byte -/

/-- Settles O35: with no entry for its type a frame is not too short, and is classified as opaque. -/
theorem unknownTypesAreOfferedUnchanged : Obligations.UnknownTypesAreOfferedUnchanged := by
  unfold Obligations.UnknownTypesAreOfferedUnchanged
  intro i b ft t s hwf hb hs hv hpass hdata hft hdisc
  have hentry := Params.frameType_eq_none hft
  have hshort : tooShort s.params ft (ft :: t) = false := by simp [tooShort, hentry]
  obtain ⟨hknown, hkind, hfidv⟩ := classifyAs_unknown (d := ft :: t) hentry
  have hfid := classifyAs_noFid hfidv
  have hexec : exec i s = .next (offerFrame ft (ft :: t) { s with rxEpend := false }) := by
    rw [exec_checksumByte hwf hb hs hv]
    refine (if_pos hpass).trans ((validate_cons (s := { s with rxEpend := false }) hdata).trans ?_)
    rw [dispatchFrame_cons (s := { s with rxEpend := false }) hdata, if_neg (by simp [hshort])]
  have hoffer : offerOf (classifyAs s.params ft (ft :: t)) ft s.rxLen (ft :: t) =
      ⟨ft, .generic, false, false, 0, s.rxLen, ft :: t⟩ := by
    rw [offerOf, hknown, hkind hdisc, hfidv, hfid]
  exact ⟨_, hexec, rfl, rfl, congrArg (fun r => s.disp ++ [.offer r]) hoffer⟩

theorem validate_outcome {s : State} {d : List Byte} (h : frameData s = some d) :
    ∃ t, validate s = .next t ∧
      ((t.rxState = .seek ∧ t.disp = s.disp ∧ ∃ p ft l, t.evt = s.evt ++ [.malformedPacket p ft l]) ∨
       (t.rxState = .dispatch ∧ t.evt = s.evt ∧ ∃ r, t.disp = s.disp ++ [.offer r])) := by
  refine ⟨_, validate_of_frameData h, ?_⟩
  split
  · exact .inl ⟨rfl, rfl, _, _, _, rfl⟩
  · exact .inr ⟨rfl, rfl, _, rfl⟩

/-- Settles O37: the checksum fails, or `VALIDATE` of the frame data, which can be read, rejects or offers it. -/
theorem oneFrameOneOutcome : Obligations.OneFrameOneOutcome := by
  unfold Obligations.OneFrameOneOutcome
  refine ⟨fun i b s hwf hb hinv hs hv => ?_, fun dual k c => ?_⟩
  · rw [exec_checksumByte hwf hb hs hv, acceptChecksum]
    split
    · obtain ⟨t, ht, hout⟩ := validate_outcome (s := { s with rxEpend := false }) (hinv.frameData_checksum hs)
      exact ⟨t, ht, .inr hout⟩
    · exact ⟨_, rfl, .inl ⟨rfl, rfl, _, _, _, rfl⟩⟩
  · rw [route_eq]
    cases c <;> simp

/-! ### The pairing of `Offer` and `Deliver` -/

@[simp] theorem offerOpen_append_offer (l : List DispRecord) (r : OfferRec) : offerOpen (l ++ [.offer r]) = true := by
  simp [offerOpen]

@[simp] theorem offerOpen_append_deliver (l : List DispRecord) (r : OfferRec) (w x : Bool) :
    offerOpen (l ++ [.deliver r w x]) = false := by
  simp [offerOpen]

theorem offerOpen_pair (r r' : OfferRec) (w x : Bool) (l : List DispRecord) :
    offerOpen (.offer r :: .deliver r' w x :: l) = offerOpen l := by
  cases l <;> simp [offerOpen]

/-- An `Offer` may follow when none is open. -/
theorem pairedUp_append_offer {l : List DispRecord} (r : OfferRec) (hpaired : pairedUp l = true)
    (hclosed : offerOpen l = false) : pairedUp (l ++ [.offer r]) = true := by
  fun_induction pairedUp l with
  | case1 => rfl
  | case2 r' => cases hclosed
  | case3 r₁ r₂ w x t ih =>
    rw [offerOpen_pair] at hclosed
    rw [Bool.and_eq_true] at hpaired
    simp only [List.cons_append, pairedUp, hpaired.1, ih hpaired.2 hclosed, Bool.and_self]
  | case4 => cases hpaired

/-- The open `Offer` may be delivered with its record. -/
theorem pairedUp_append_deliver {l : List DispRecord} {r : OfferRec} (w x : Bool) (hpaired : pairedUp l = true)
    (hlast : l.getLast? = some (.offer r)) : pairedUp (l ++ [.deliver r w x]) = true := by
  fun_induction pairedUp l with
  | case1 => cases hlast
  | case2 r' => cases hlast; simp [pairedUp]
  | case3 r₁ r₂ w' x' t ih =>
    rw [Bool.and_eq_true] at hpaired
    have hlast' : t.getLast? = some (.offer r) := by
      cases t <;> simp_all
    simp only [List.cons_append, pairedUp, hpaired.1, ih hpaired.2 hlast', Bool.and_self]
  | case4 => cases hpaired

theorem acceptLenLo_ne_dispatch (v : Byte) (s : State) : (acceptLenLo v s).rxState ≠ .dispatch := by
  rcases acceptLenLo_rxState v s with h | h <;> simp [h]

theorem acceptPayload_ne_dispatch (v : Byte) {s : State} (hs : s.rxState = .payload) :
    (acceptPayload v { s with rxEpend := false }).rxState ≠ .dispatch := by
  rcases acceptPayload_rxState v { s with rxEpend := false } with h | h <;> rw [h]
  · simp [hs]
  · decide

/-- What a port event other than reset does to `DISP` and to the hold: nothing, an `Offer`, or the `Deliver`. -/
theorem Effect.dispatching {i : Instr} {s t : State} (he : Effect i s t) (hi : frameTypeOf i = Option.none)
    (hreset : i ≠ .softReset) :
    (t.disp = s.disp ∧ (t.rxState = .dispatch ↔ s.rxState = .dispatch)) ∨
    (s.rxState = .checksum ∧ t.rxState = .dispatch ∧ ∃ r, t.disp = s.disp ++ [.offer r]) ∨
    (s.rxState = .dispatch ∧ t.rxState = .seek ∧ ∃ d w x, drecData s = some d ∧
      t.disp = s.disp ++ [.deliver (deliverRec s.drec d) w x]) := by
  cases he
  case passed hs _ _ => exact .inr (.inl ⟨hs, rfl, _, rfl⟩)
  case acked d _ hs hd => exact .inr (.inr ⟨hs, rfl, d, _, _, hd, rfl⟩)
  case reset h => exact absurd h hreset
  case typeEmpty h _ | typeShort h _ _ _ | typeOffered h _ _ _ => simp [hi] at h
  case opened hs _ | lenHi hs | failed hs _ | passedEmpty hs _ | passedShort hs _ _ =>
    exact .inl ⟨rfl, iff_of_false nofun (by simp [hs])⟩
  case stopped _ hs | started _ hs =>
    exact .inl ⟨rfl, iff_of_false nofun (by rcases hs with hs | hs <;> simp [hs])⟩
  case resynced x hs _ _ _ | closed x _ hs =>
    exact .inl ⟨rfl, iff_of_false nofun (hs ▸ bodyRx_ne_dispatch x)⟩
  case lenLo v hs =>
    exact .inl ⟨rfl, iff_of_false (acceptLenLo_ne_dispatch v _) (by simp [hs])⟩
  case stored v hs =>
    have hdisp : (acceptPayload v { s with rxEpend := false }).disp = s.disp :=
      congrArg Tally.disp (tally_acceptPayload v { s with rxEpend := false })
    exact .inl ⟨hdisp, iff_of_false (acceptPayload_ne_dispatch v hs) (by simp [hs])⟩
  all_goals exact .inl ⟨rfl, Iff.rfl⟩

/-- Settles O38: an `Offer` is appended where none is open, and a `Deliver` has the record of the last `Offer`. -/
theorem offersAreDeliveredInOrder : Obligations.OffersAreDeliveredInOrder := by
  unfold Obligations.OffersAreDeliveredInOrder
  intro s t p w i hinv hdecode hreset hpaired hopen hexec
  have hevent := frameTypeOf_of_isEvent (decodeEvent_ok hdecode).1
  rcases (exec_effect hexec).dispatching hevent hreset with
    ⟨hdisp, hstate⟩ | ⟨hs, ht, r, hdisp⟩ | ⟨hs, ht, d, w, x, hd, hdisp⟩
  · rw [hdisp, hstate]
    exact ⟨hpaired, hopen⟩
  · have hclosed : offerOpen s.disp = false := Bool.eq_false_iff.2 fun h => by simp [hopen.1 h] at hs
    rw [hdisp, ht]
    exact ⟨pairedUp_append_offer r hpaired hclosed, by simp⟩
  · obtain ⟨-, -, hlast⟩ := hinv.offer hs
    obtain rfl : pbufBytes s = d := Option.some.inj ((hinv.drecData_dispatch hs).symm.trans hd)
    rw [hdisp, ht]
    exact ⟨pairedUp_append_deliver w x hpaired hlast, by simp⟩

end Sys2Proof.Machine
end

section
/-! SUPPORT. What `CTRL` and the sticky flags decide (spec/10_state.md sections 4, 5 and 8): the meanings of the block
commute with an edit of these five bits, but for those that sample `CTRL`, read or write the bits. -/

namespace Sys2Proof.Machine

/-! ### Edits of the flags -/

/-- An edit of `CTRL` and the sticky flags: what each bit becomes, by what it was. -/
structure FlagEdit where
  esc : Bool → Bool := id
  rsync : Bool → Bool := id
  txerr : Bool → Bool := id
  badcmd : Bool → Bool := id
  connlost : Bool → Bool := id

def FlagEdit.apply (g : FlagEdit) (s : State) : State :=
  { s with
    ctrlEsc := g.esc s.ctrlEsc
    ctrlRsync := g.rsync s.ctrlRsync
    txerr := g.txerr s.txerr
    badcmd := g.badcmd s.badcmd
    connlost := g.connlost s.connlost }

def FlagEdit.ctrl (e r : Bool) : FlagEdit where
  esc _ := e
  rsync _ := r

def FlagEdit.sticky (a b c : Bool) : FlagEdit where
  txerr _ := a
  badcmd _ := b
  connlost _ := c

theorem withCtrl_eq_apply (e r : Bool) : withCtrl e r = (FlagEdit.ctrl e r).apply := rfl

theorem withSticky_eq_apply (a b c : Bool) : withSticky a b c = (FlagEdit.sticky a b c).apply := rfl

/-! ### The receive side -/

section
variable (g : FlagEdit)

theorem dispatchFrame_commutes_flags (ft : Byte) : Commutes g.apply (dispatchFrame ft) := by
  intro s
  have hdata : frameData (g.apply s) = frameData s := rfl
  rcases h : frameData s with _ | _ | ⟨b, t⟩
  · simp only [dispatchFrame, hdata, h]; rfl
  · simp only [dispatchFrame, hdata, h]; rfl
  · rw [dispatchFrame_cons h, dispatchFrame_cons (hdata.trans h), mapNext, apply_ite g.apply]
    rfl

theorem validate_commutes_flags : Commutes g.apply validate := by
  intro s
  have hdata : frameData (g.apply s) = frameData s := rfl
  cases h : frameData s with
  | none => simp only [validate, hdata, h]; rfl
  | some d =>
    rw [validate_of_frameData h, validate_of_frameData (hdata.trans h), mapNext, apply_ite g.apply]
    rfl

theorem acceptValue_commutes_flags (x : BodyState) (v : Byte) : Commutes g.apply (acceptValue x v) := by
  intro s
  cases x with
  | lenHi => rfl
  | lenLo => rfl
  | payload =>
    refine congrArg Host.Outcome.next ?_
    simp only [acceptPayload, apply_ite g.apply]
    rfl
  | checksum =>
    have hsum : Commutes g.apply (acceptChecksum v) :=
      .ite (fun _ => Iff.rfl) (validate_commutes_flags g) fun _ => rfl
    exact hsum { s with rxEpend := false }

/-- A byte opens a frame: the delimiter in `SEEK`, or a resync (R101, R104). -/
def opensFrame (b : Byte) (s : State) : Prop :=
  b = 0x7E ∧ (s.rxState = .seek ∨ isBody s.rxState = true ∧ s.rxLesc = true ∧ s.rxLrsync = true)

variable {g}

theorem openFrame_commutes_flags {s : State} (h : g.esc s.ctrlEsc = s.ctrlEsc ∧ g.rsync s.ctrlRsync = s.ctrlRsync) :
    openFrame (g.apply s) = g.apply (openFrame s) := by
  obtain ⟨he, hr⟩ := h
  simp only [openFrame, goto, clearReceive, FlagEdit.apply, he, hr]

theorem seekByte_commutes_flags {b : Byte} {s : State}
    (h : b = 0x7E → g.esc s.ctrlEsc = s.ctrlEsc ∧ g.rsync s.ctrlRsync = s.ctrlRsync) :
    seekByte b (g.apply s) = mapNext g.apply (seekByte b s) := by
  rw [seekByte, seekByte, apply_ite (mapNext g.apply)]
  exact ite_congr rfl (fun hb => congrArg Host.Outcome.next (openFrame_commutes_flags (h hb))) fun _ => rfl

theorem bodyByte_commutes_flags {b : Byte} {x : BodyState} {s : State}
    (h : s.rxLesc = true ∧ s.rxLrsync = true ∧ b = 0x7E →
      g.esc s.ctrlEsc = s.ctrlEsc ∧ g.rsync s.ctrlRsync = s.ctrlRsync) :
    bodyByte b x (g.apply s) = mapNext g.apply (bodyByte b x s) := by
  rw [bodyByte, bodyByte, apply_ite (mapNext g.apply), apply_ite (mapNext g.apply)]
  refine ite_congr rfl (fun hb => congrArg Host.Outcome.next ?_) fun _ =>
    ite_congr rfl (fun _ => rfl) fun _ => acceptValue_commutes_flags g x (valueByte b s) s
  exact openFrame_commutes_flags (s := raiseIncompleteFrame x .resync s) (h hb)

/-- A received byte reads `CTRL` only where it opens a frame, and the sticky flags nowhere. -/
theorem execRxByte_commutes_flags {b : Byte} {s : State}
    (h : opensFrame b s → g.esc s.ctrlEsc = s.ctrlEsc ∧ g.rsync s.ctrlRsync = s.ctrlRsync) :
    execRxByte b (g.apply s) = mapNext g.apply (execRxByte b s) := by
  rw [execRxByte_eq, execRxByte_eq]
  rcases receive_cases s with hs | hs | hs | ⟨x, hs⟩
  · rw [receive_discard hs, receive_discard (s := g.apply s) hs]; rfl
  · rw [receive_seek hs, receive_seek (s := g.apply s) hs]
    exact seekByte_commutes_flags fun hb => h ⟨hb, .inl hs⟩
  · rw [receive_held hs, receive_held (s := g.apply s) hs]; rfl
  · rw [receive_body hs, receive_body (s := g.apply s) hs]
    exact bodyByte_commutes_flags fun hb => h ⟨hb.2.2, .inr ⟨hs ▸ isBody_bodyRx x, hb.1, hb.2.1⟩⟩

/-- Row `OTHER`, of any byte, opens no frame. -/
theorem execOther_commutes_flags (b : Byte) : Commutes g.apply (execOther b) :=
  .receive (fun _ => rfl) (fun _ => rfl) fun x s => acceptValue_commutes_flags g x (valueByte b s) s

end

/-! ### The registers that show the flags -/

theorem lookup_append_cons_of_ne {α β : Type} [BEq α] [LawfulBEq α] {a k : α} (h : a ≠ k) (v : β)
    (l₁ l₂ : List (α × β)) : (l₁ ++ (k, v) :: l₂).lookup a = (l₁ ++ l₂).lookup a := by
  simp only [List.lookup_append, List.lookup_cons, beq_eq_false_iff_ne.2 h]

/-- Only address 0 shows `CTRL`. -/
theorem csrValue_withCtrl {a : Byte} (h : a ≠ 0x00) (e r : Bool) (s : State) :
    csrValue a (withCtrl e r s) = csrValue a s :=
  (lookup_append_cons_of_ne h (ctrlWord (withCtrl e r s)) [] _).trans
    (lookup_append_cons_of_ne h (ctrlWord s) [] _).symm

/-- Only address 1 shows the sticky flags. -/
theorem csrValue_withSticky {a : Byte} (h : a ≠ 0x01) (x y z : Bool) (s : State) :
    csrValue a (withSticky x y z s) = csrValue a s :=
  (lookup_append_cons_of_ne h (statusWord (withSticky x y z s)) [(0x00, ctrlWord s)] _).trans
    (lookup_append_cons_of_ne h (statusWord s) [(0x00, ctrlWord s)] _).symm

/-! ### `CTRL` -/

section
variable (e r : Bool)

theorem execRxClose_commutes_ctrl : Commutes (withCtrl e r) execRxClose := by
  intro s
  have hstate : (withCtrl e r s).rxState = s.rxState := rfl
  cases h : s.rxState <;> simp only [execRxClose, hstate, h] <;> rfl

theorem execDispatchAck_commutes_ctrl (c : Bool) : Commutes (withCtrl e r) (execDispatchAck c) := by
  refine .ite (fun _ => Iff.rfl) (fun s => ?_) fun _ => rfl
  have hdata : drecData (withCtrl e r s) = drecData s := rfl
  cases h : drecData s <;> simp only [hdata, h] <;> rfl

theorem execTxData_commutes_ctrl (b : Byte) : Commutes (withCtrl e r) (execTxData b) := by
  intro s
  rw [execTxData_eq, execTxData_eq, mapNext, apply_ite (withCtrl e r)]
  rfl

theorem execCsrRead_commutes_ctrl {a : Byte} (h : a ≠ 0x00) : Commutes (withCtrl e r) (execCsrRead a) := by
  intro s
  rw [execCsrRead_eq, execCsrRead_eq, csrValue_withCtrl h]
  cases csrValue a s <;> rfl

theorem execStart_commutes_ctrl : Commutes (withCtrl e r) execStart := by
  intro s
  rw [execStart_eq, execStart_eq, mapNext, apply_ite (withCtrl e r)]
  rfl

end

theorem exec_wireByte_commutes_ctrl {i : Instr} {b : Byte} {s : State} (e r : Bool) (hwf : i.wf = true)
    (hb : wireByteOf i = some b) (h : ¬opensFrame b s) :
    exec i (withCtrl e r s) = mapNext (withCtrl e r) (exec i s) := by
  rw [exec_wireByte hwf hb, exec_wireByte hwf hb, withCtrl_eq_apply]
  exact execRxByte_commutes_flags fun hopen => absurd hopen h

theorem exec_frameType_commutes_flags (g : FlagEdit) {i : Instr} {ft : Byte} (hi : frameTypeOf i = some ft) :
    Commutes g.apply (exec i) := by
  intro s
  rw [exec_frameType hi, exec_frameType hi, dispatchFrame_commutes_flags g ft s]

/-- Settles O44: a byte reads `CTRL` where it opens a frame, and of the other events only those excluded name it. -/
theorem modeIsReadOnlyAtFrameStarts : Obligations.ModeIsReadOnlyAtFrameStarts := by
  unfold Obligations.ModeIsReadOnlyAtFrameStarts
  intro i e r s hwf hstart hread hwrite hreset hopen
  cases hb : wireByteOf i with
  | some b =>
    refine exec_wireByte_commutes_ctrl e r hwf hb fun ⟨hdelim, hframe⟩ => hopen ⟨?_, hframe⟩
    rw [hb, hdelim]
  | none =>
    cases hft : frameTypeOf i with
    | some ft => exact exec_frameType_commutes_flags (.ctrl e r) hft s
    | none =>
      cases i
      case nop | csrWriteStatus | reservedAB | reservedCF => rfl
      case rxClose => exact execRxClose_commutes_ctrl e r s
      case dispatchAck c => exact execDispatchAck_commutes_ctrl e r c s
      case txData b => exact execTxData_commutes_ctrl e r b s
      case csrRead a => exact execCsrRead_commutes_ctrl e r (fun ha => hread (congrArg _ ha)) s
      case csrWrite a d => rw [exec_csrWrite_refused hwf, exec_csrWrite_refused hwf]; rfl
      case start => exact execStart_commutes_ctrl e r s
      case txStart l => exact absurd rfl (hstart l)
      case csrWriteCtrl d => exact absurd rfl (hwrite d)
      case softReset => exact absurd rfl hreset
      all_goals simp [wireByteOf, frameTypeOf] at hb hft

/-! ### The sticky flags -/

/-- An outcome with the sticky flags of its state cleared: what is left of it besides them. -/
def clearedSticky (o : Outcome) : Outcome :=
  mapNext (withSticky false false false) o

/-- A meaning whose outcome, up to the sticky flags, does not depend on them. -/
def IgnoresSticky (m : State → Outcome) : Prop :=
  ∀ a b c s, clearedSticky (m (withSticky a b c s)) = clearedSticky (m s)

theorem clearedSticky_mapNext (a b c : Bool) (o : Outcome) :
    clearedSticky (mapNext (withSticky a b c) o) = clearedSticky o := by
  cases o <;> rfl

/-- What commutes with a change of the sticky flags does not depend on them. -/
theorem ignoresSticky_of_commutes {m : State → Outcome} (h : ∀ a b c, Commutes (withSticky a b c) m) :
    IgnoresSticky m := fun a b c s => by
  rw [h a b c s, clearedSticky_mapNext]

/-- So does not what completes in states that differ in the sticky flags alone. -/
theorem ignoresSticky_of_next {m : State → Outcome} {f : State → State} (hm : ∀ s, m s = .next (f s))
    (hf : ∀ a b c s, withSticky false false false (f (withSticky a b c s)) = withSticky false false false (f s)) :
    IgnoresSticky m := fun a b c s => by
  rw [hm, hm]
  exact congrArg Host.Outcome.next (hf a b c s)

theorem execRxByte_ignoresSticky (b : Byte) : IgnoresSticky (execRxByte b) :=
  ignoresSticky_of_commutes fun x y z _ => withSticky_eq_apply x y z ▸ execRxByte_commutes_flags fun _ => ⟨rfl, rfl⟩

theorem execRxClose_ignoresSticky : IgnoresSticky execRxClose := by
  intro a b c s
  have hstate : (withSticky a b c s).rxState = s.rxState := rfl
  cases h : s.rxState <;> simp only [execRxClose, hstate, h] <;> rfl

theorem execDispatchAck_ignoresSticky (claim : Bool) : IgnoresSticky (execDispatchAck claim) := by
  intro a b c s
  have hdata : drecData (withSticky a b c s) = drecData s := rfl
  rw [execDispatchAck, execDispatchAck, hdata, apply_ite clearedSticky, apply_ite clearedSticky]
  refine ite_congr rfl (fun _ => ?_) fun _ => rfl
  cases drecData s <;> rfl

theorem execCsrRead_ignoresSticky {addr : Byte} (h : addr ≠ 0x01) : IgnoresSticky (execCsrRead addr) := by
  intro a b c s
  rw [execCsrRead_eq, execCsrRead_eq, csrValue_withSticky h]
  cases csrValue addr s <;> rfl

theorem withSticky_ite (a b c : Bool) (p : Prop) [Decidable p] (s t : State) :
    withSticky a b c (if p then s else t) = if p then withSticky a b c s else withSticky a b c t :=
  apply_ite ..

/-- The framer and control events: where one chooses by a condition, it is on another part of the state. -/
theorem exec_control_ignoresSticky {i : Instr} (hside : isReceiveSide i = false) (hread : i ≠ .csrRead 0x01) :
    IgnoresSticky (exec i) := by
  cases i
  case nop | csrWriteCtrl | csrWriteStatus | softReset | reservedAB | reservedCF => exact fun _ _ _ _ => rfl
  case csrRead a => exact execCsrRead_ignoresSticky fun ha => hread (congrArg _ ha)
  case txStart l =>
    exact ignoresSticky_of_next (execTxStart_eq l) fun _ _ _ _ => by simp only [withSticky_ite]; rfl
  case txData x =>
    exact ignoresSticky_of_next (execTxData_eq x) fun _ _ _ _ => by simp only [withSticky_ite]; rfl
  case csrWrite addr d =>
    exact ignoresSticky_of_next (execCsrWrite_eq addr d) fun _ _ _ _ => by simp only [withSticky_ite]; rfl
  case start => exact ignoresSticky_of_next execStart_eq fun _ _ _ _ => by simp only [withSticky_ite]; rfl
  all_goals cases hside

/-- Settles O45: a byte or a frame-type row commutes with a change of the flags, and every other event overwrites them,
leaves them, or sets one whatever they were. -/
theorem stickyFlagsDecideNothing : Obligations.StickyFlagsDecideNothing := by
  unfold Obligations.StickyFlagsDecideNothing
  intro i a b c s hread
  cases hside : isReceiveSide i with
  | false => exact exec_control_ignoresSticky hside hread a b c s
  | true =>
    obtain ⟨x, hwf, hx⟩ | ⟨x, rfl⟩ | rfl | ⟨claim, rfl⟩ | ⟨ft, hft⟩ := isReceiveSide_cases hside
    · rw [exec_wireByte hwf hx, exec_wireByte hwf hx]
      exact execRxByte_ignoresSticky x a b c s
    · exact ignoresSticky_of_commutes (fun x' y z => execOther_commutes_flags (g := .sticky x' y z) x) a b c s
    · exact execRxClose_ignoresSticky a b c s
    · exact execDispatchAck_ignoresSticky claim a b c s
    · exact ignoresSticky_of_commutes (fun x y z => exec_frameType_commutes_flags (.sticky x y z) hft) a b c s

end Sys2Proof.Machine
end

section
/-! SUPPORT. The streaming receiver against the reference decoder (spec/42_rx_deframer.md R110): a value taken by
`DEFRAME` is one value byte for the accept rule, the length, the data and the checksum of a frame are such values, and
what the block reports of a frame is what `SCAN` reports of it. -/

namespace Sys2Proof.Machine

/-! ### What `DEFRAME` takes -/

/-- A value is taken from one byte, or from an escape pair (R90). -/
theorem takeValue_eq_some {w r : List Byte} {e : Bool} {v : Byte} (h : takeValue w e = some (v, r)) :
    (w = v :: r ∧ ¬(e = true ∧ v = Config.esc)) ∨
    (e = true ∧ ∃ x, w = Config.esc :: x :: r ∧ x ^^^ Config.escMask = v) := by
  cases w with
  | nil => cases h
  | cons b t =>
    by_cases hb : e = true ∧ b = Config.esc
    · obtain ⟨rfl, rfl⟩ := hb
      rw [takeValue_esc] at h
      cases t with
      | nil => cases h
      | cons x t => cases h; exact .inr ⟨rfl, x, rfl, rfl⟩
    · rw [takeValue_cons hb] at h
      cases h
      exact .inl ⟨rfl, hb⟩

/-- No value is taken where the input ends, before a value or in an escape pair (R90). -/
theorem takeValue_eq_none {w : List Byte} {e : Bool} (h : takeValue w e = none) :
    w = [] ∨ (e = true ∧ w = [Config.esc]) := by
  cases w with
  | nil => exact .inl rfl
  | cons b t =>
    by_cases hb : e = true ∧ b = Config.esc
    · obtain ⟨rfl, rfl⟩ := hb
      rw [takeValue_esc] at h
      cases t with
      | nil => exact .inr ⟨rfl, rfl⟩
      | cons x t => cases h
    · rw [takeValue_cons hb] at h
      cases h

theorem takeValue_length {w r : List Byte} {e : Bool} {v : Byte} (h : takeValue w e = some (v, r)) :
    r.length < w.length := by
  obtain ⟨rfl, -⟩ | ⟨-, x, rfl, -⟩ := takeValue_eq_some h <;> simp only [List.length_cons] <;> omega

theorem takeValues_succ_eq_some {k : Nat} {w r d : List Byte} {e : Bool} (h : takeValues (k + 1) w e = some (d, r)) :
    ∃ v w' vs, takeValue w e = some (v, w') ∧ takeValues k w' e = some (vs, r) ∧ d = v :: vs := by
  rw [takeValues] at h
  cases hv : takeValue w e with
  | none => simp [hv] at h
  | some p =>
    obtain ⟨v, w'⟩ := p
    simp only [hv] at h
    cases hvs : takeValues k w' e with
    | none => simp [hvs] at h
    | some q =>
      obtain ⟨vs, r'⟩ := q
      simp only [hvs] at h
      cases h
      exact ⟨v, w', vs, rfl, hvs, rfl⟩

theorem takeValues_succ_eq_none {k : Nat} {w : List Byte} {e : Bool} (h : takeValues (k + 1) w e = none) :
    takeValue w e = none ∨ ∃ v w', takeValue w e = some (v, w') ∧ takeValues k w' e = none := by
  cases hv : takeValue w e with
  | none => exact .inl rfl
  | some p =>
    obtain ⟨v, w'⟩ := p
    refine .inr ⟨v, w', rfl, ?_⟩
    rw [takeValues, hv] at h
    cases hvs : takeValues k w' e with
    | none => rfl
    | some q => simp [hvs] at h

theorem takeValues_length {k : Nat} {w r d : List Byte} {e : Bool} (h : takeValues k w e = some (d, r)) :
    d.length = k ∧ r.length ≤ w.length := by
  induction k generalizing w d with
  | zero => cases h; exact ⟨rfl, le_rfl⟩
  | succ k ih =>
    obtain ⟨v, w', vs, hv, hvs, rfl⟩ := takeValues_succ_eq_some h
    obtain ⟨hd, hr⟩ := ih hvs
    have hw := takeValue_length hv
    exact ⟨congrArg (· + 1) hd, by omega⟩

theorem be16_append (h l : Byte) : be16 (h ++ l) = [h, l] := by
  have hhi : hiByte (h ++ l) = h := BitVec.extractLsb'_append_eq_left
  rw [be16, hhi, loByte_append]

/-- Two values are the bytes of a length. -/
theorem takeValues_two {w r d : List Byte} {e : Bool} (h : takeValues 2 w e = some (d, r)) :
    ∃ len : Half, d = be16 len := by
  obtain ⟨hi, lo, rfl⟩ := List.length_eq_two.1 (takeValues_length h).1
  exact ⟨hi ++ lo, (be16_append hi lo).symm⟩

/-- `DEFRAME` after the delimiter, by where the input ends (R90). -/
inductive DeframeSteps (w : List Byte) (e : Bool) : Deframed → Prop
  | noLength (hlen : takeValues 2 w e = none) : DeframeSteps w e .incompleteFrame
  | noData (len : Half) (w₁ : List Byte) (hlen : takeValues 2 w e = some (be16 len, w₁))
      (hdata : takeValues len.toNat w₁ e = none) : DeframeSteps w e .incompleteFrame
  | noChecksum (len : Half) (d w₁ w₂ : List Byte) (hlen : takeValues 2 w e = some (be16 len, w₁))
      (hdata : takeValues len.toNat w₁ e = some (d, w₂)) (hcksum : takeValue w₂ e = none) :
      DeframeSteps w e .incompleteFrame
  | whole (len : Half) (d w₁ w₂ w₃ : List Byte) (c : Byte) (hlen : takeValues 2 w e = some (be16 len, w₁))
      (hdata : takeValues len.toNat w₁ e = some (d, w₂)) (hcksum : takeValue w₂ e = some (c, w₃)) :
      DeframeSteps w e (if verify d c then .ok d w₃ else .checksumError w₃)

theorem deframeSteps (w : List Byte) (e : Bool) : DeframeSteps w e (deframeBody w e) := by
  cases hlen : takeValues 2 w e with
  | none => simpa only [deframeBody, hlen] using .noLength hlen
  | some p =>
    obtain ⟨hl, w₁⟩ := p
    obtain ⟨len, rfl⟩ := takeValues_two hlen
    have hlen' := hlen
    rw [be16] at hlen'
    cases hdata : takeValues len.toNat w₁ e with
    | none => simpa only [deframeBody, hlen', hiByte_append_loByte, hdata] using .noData len w₁ hlen hdata
    | some q =>
      obtain ⟨d, w₂⟩ := q
      cases hcksum : takeValue w₂ e with
      | none =>
        simpa only [deframeBody, hlen', hiByte_append_loByte, hdata, hcksum] using
          .noChecksum len d w₁ w₂ hlen hdata hcksum
      | some c =>
        obtain ⟨c, w₃⟩ := c
        rw [deframeBody_of_takeValues hlen hdata hcksum]
        exact .whole len d w₁ w₂ w₃ c hlen hdata hcksum

/-! ### One byte with its acknowledge -/

/-- The state in which the next byte is received: an `Offer` is acknowledged first (R110). -/
def AckedTo (claim : List DispRecord → Bool) (t u : State) : Prop :=
  (t.rxState ≠ .dispatch ∧ u = t) ∨ (t.rxState = .dispatch ∧ exec (.dispatchAck (claim t.disp)) t = .next u)

section
variable {claim : List DispRecord → Bool}

theorem ackedTo_of_ne {t : State} (h : t.rxState ≠ .dispatch) : AckedTo claim t t :=
  .inl ⟨h, rfl⟩

theorem receiveAcked_cons {b : Byte} {bs : List Byte} {s t u : State} (h : exec (.rxByte b) s = .next t)
    (hack : AckedTo claim t u) : receiveAcked claim (b :: bs) s = receiveAcked claim bs u := by
  rw [receiveAcked]
  obtain ⟨hne, rfl⟩ | ⟨hd, hexec⟩ := hack
  · simp only [h, if_neg hne]
  · simp only [h, if_pos hd, hexec]

/-- A run of bytes that reports nothing. -/
def RunsQuietly (claim : List DispRecord → Bool) (w : List Byte) (s : State) : Prop :=
  ∃ t, receiveAcked claim w s = .next t ∧ t.evt = s.evt ∧ t.disp = s.disp

/-! ### The receiver in the middle of a frame -/

variable {s : State} {x : BodyState} {len : Half} {d : List Byte}

theorem exec_esc_midFrame (he : s.ctrlEsc = true) :
    exec (.rxByte Config.esc) (midFrame x len d s) = .next { midFrame x len d s with rxEpend := true } :=
  (exec_wireByte_body rfl rfl rfl).trans (bodyByte_escape x he rfl)

theorem ackedTo_midFrame : AckedTo claim (midFrame x len d s) (midFrame x len d s) :=
  ackedTo_of_ne (bodyRx_ne_dispatch x)

theorem ackedTo_escapePending (p : Bool) :
    AckedTo claim { midFrame x len d s with rxEpend := p } { midFrame x len d s with rxEpend := p } :=
  ackedTo_of_ne (bodyRx_ne_dispatch x)

/-- With `RSYNC` 0 a value taken by `DEFRAME` is a value byte for the accept rule (R103). -/
theorem receiveAcked_value (hr : s.ctrlRsync = false) {w r : List Byte} {v : Byte}
    (hv : takeValue w s.ctrlEsc = some (v, r)) {t u : State} (h : acceptValue x v (midFrame x len d s) = .next t)
    (hack : AckedTo claim t u) : receiveAcked claim w (midFrame x len d s) = receiveAcked claim r u := by
  have hrsync (b : Byte) : ¬(s.ctrlEsc = true ∧ s.ctrlRsync = true ∧ b = 0x7E) := fun hc => by simp [hr] at hc
  obtain ⟨rfl, hplain⟩ | ⟨he, y, rfl, rfl⟩ := takeValue_eq_some hv
  · have htakes : takesValue v (midFrame x len d s) := ⟨hrsync v, fun hc => hplain ⟨hc.1, hc.2.2⟩⟩
    exact receiveAcked_cons ((exec_rxByte_plain rfl rfl htakes).trans h) hack
  · have htakes : takesValue y { midFrame x len d s with rxEpend := true } := ⟨hrsync y, fun hc => nomatch hc.2.1⟩
    have hvalue : valueByte y { midFrame x len d s with rxEpend := true } = y ^^^ Config.escMask := if_pos ⟨he, rfl⟩
    have hsecond : exec (.rxByte y) { midFrame x len d s with rxEpend := true } = .next t := by
      rw [exec_valueByte (x := x) rfl rfl rfl htakes, hvalue, acceptValue_setEpend, h]
    exact (receiveAcked_cons (exec_esc_midFrame he) (ackedTo_escapePending true)).trans
      (receiveAcked_cons hsecond hack)

/-- Where no value is taken the input ends inside the frame, which reports nothing. -/
theorem runsQuietly_noValue {w : List Byte} (hv : takeValue w s.ctrlEsc = none) :
    RunsQuietly claim w (midFrame x len d s) := by
  obtain rfl | ⟨he, rfl⟩ := takeValue_eq_none hv
  · exact ⟨_, rfl, rfl, rfl⟩
  · exact ⟨_, receiveAcked_cons (exec_esc_midFrame he) (ackedTo_escapePending true), rfl, rfl⟩

/-- The next byte of frame data, and the rest of the input. -/
theorem receiveAcked_dataByte (hr : s.ctrlRsync = false) {w r : List Byte} {v : Byte}
    (hv : takeValue w s.ctrlEsc = some (v, r)) (hlt : d.length < len.toNat) :
    receiveAcked claim w (midFrame (dataState len d) len d s) =
      receiveAcked claim r (midFrame (dataState len (d ++ [v])) len (d ++ [v]) s) := by
  rw [dataState_of_lt hlt]
  exact receiveAcked_value hr hv (acceptValue_payload_midFrame v s hlt) ackedTo_midFrame

/-- The rest of the frame data, after a part `d` of it. -/
theorem receiveAcked_data (hr : s.ctrlRsync = false) {w r vs : List Byte} {k : Nat}
    (hvs : takeValues k w s.ctrlEsc = some (vs, r)) (hlen : d.length + k = len.toNat) :
    receiveAcked claim w (midFrame (dataState len d) len d s) =
      receiveAcked claim r (midFrame .checksum len (d ++ vs) s) := by
  induction k generalizing w d vs with
  | zero =>
    cases hvs
    rw [dataState_of_eq hlen, List.append_nil]
  | succ k ih =>
    obtain ⟨v, w', vs', hv, hvs', rfl⟩ := takeValues_succ_eq_some hvs
    have hlen' : (d ++ [v]).length + k = len.toNat := by
      rw [List.length_append, List.length_singleton]; omega
    rw [receiveAcked_dataByte hr hv (by omega), ih hvs' hlen', List.append_cons d v vs']

theorem runsQuietly_noData (hr : s.ctrlRsync = false) {w : List Byte} {k : Nat}
    (hvs : takeValues k w s.ctrlEsc = none) (hlen : d.length + k = len.toNat) :
    RunsQuietly claim w (midFrame (dataState len d) len d s) := by
  induction k generalizing w d with
  | zero => cases hvs
  | succ k ih =>
    obtain hv | ⟨v, w', hv, hvs'⟩ := takeValues_succ_eq_none hvs
    · exact runsQuietly_noValue hv
    · have hlen' : (d ++ [v]).length + k = len.toNat := by
        rw [List.length_append, List.length_singleton]; omega
      rw [RunsQuietly, receiveAcked_dataByte hr hv (by omega)]
      exact ih hvs' hlen'

theorem receiveAcked_lengthHigh (hr : s.ctrlRsync = false) {w r : List Byte} {v : Byte}
    (hv : takeValue w s.ctrlEsc = some (v, r)) :
    receiveAcked claim w (midFrame .lenHi 0 [] s) = receiveAcked claim r (midFrame .lenLo (v ++ 0x00#8) [] s) :=
  receiveAcked_value hr hv (acceptValue_lenHi_midFrame v s) ackedTo_midFrame

/-- The two bytes of the length. -/
theorem receiveAcked_length (hr : s.ctrlRsync = false) {w r : List Byte}
    (hlen : takeValues 2 w s.ctrlEsc = some (be16 len, r)) :
    receiveAcked claim w (midFrame .lenHi 0 [] s) = receiveAcked claim r (midFrame (dataState len []) len [] s) := by
  obtain ⟨hi, w₁, vs, hhi, hrest, hbytes⟩ := takeValues_succ_eq_some hlen
  obtain ⟨lo, w₂, vs', hlo, hnil, rfl⟩ := takeValues_succ_eq_some hrest
  cases hnil
  cases hbytes
  rw [receiveAcked_lengthHigh hr hhi]
  exact receiveAcked_value hr hlo (acceptValue_lenLo_midFrame len s) ackedTo_midFrame

theorem runsQuietly_noLength (hr : s.ctrlRsync = false) {w : List Byte} (hlen : takeValues 2 w s.ctrlEsc = none) :
    RunsQuietly claim w (midFrame .lenHi 0 [] s) := by
  obtain hhi | ⟨hi, w₁, hhi, hrest⟩ := takeValues_succ_eq_none hlen
  · exact runsQuietly_noValue hhi
  · rw [RunsQuietly, receiveAcked_lengthHigh hr hhi]
    obtain hlo | ⟨lo, w₂, -, hnil⟩ := takeValues_succ_eq_none hrest
    · exact runsQuietly_noValue hlo
    · cases hnil

end

/-! ### What a frame reports -/

/-- One report after the other. -/
def Reports.append (a b : Reports) : Reports :=
  ⟨a.evts ++ b.evts, a.offers ++ b.offers⟩

/-- From `s` to `t` the block reported just this, on `EVT` without the fields of a `ChecksumError` and on `DISP`. -/
structure ReportedAs (rep : Reports) (s t : State) : Prop where
  evts : t.evt.map plainEvt = s.evt.map plainEvt ++ rep.evts
  offers : offersOf t.disp = offersOf s.disp ++ rep.offers

theorem ReportedAs.append {a b : Reports} {s t u : State} (h : ReportedAs a s t) (h' : ReportedAs b t u) :
    ReportedAs (a.append b) s u where
  evts := by rw [h'.evts, h.evts, List.append_assoc]; rfl
  offers := by rw [h'.offers, h.offers, List.append_assoc]; rfl

theorem reportedAs_silent {s t : State} (hevt : t.evt = s.evt) (hdisp : t.disp = s.disp) :
    ReportedAs ⟨[], []⟩ s t :=
  ⟨by rw [hevt]; exact (List.append_nil _).symm, by rw [hdisp]; exact (List.append_nil _).symm⟩

theorem reportedAs_evt {s t : State} {e : EvtRecord} (hevt : t.evt = s.evt ++ [e]) (hdisp : t.disp = s.disp) :
    ReportedAs ⟨[plainEvt e], []⟩ s t :=
  ⟨by rw [hevt, List.map_append]; rfl, by rw [hdisp]; exact (List.append_nil _).symm⟩

/-- An `Offer` and its `Deliver` (R53). -/
theorem reportedAs_offer {s t : State} {o o' : OfferRec} {w x : Bool} (hevt : t.evt = s.evt)
    (hdisp : t.disp = s.disp ++ [.offer o] ++ [.deliver o' w x]) : ReportedAs ⟨[], [o]⟩ s t :=
  ⟨by rw [hevt]; exact (List.append_nil _).symm, by rw [hdisp]; simp [offersOf]⟩

/-- The receiver seeks the next frame, in the same mode and with the same parameters, after it reported this. -/
structure Resumed (rep : Reports) (s u : State) : Prop where
  seek : u.rxState = .seek
  esc : u.ctrlEsc = s.ctrlEsc
  rsync : u.ctrlRsync = s.ctrlRsync
  params : u.params = s.params
  reported : ReportedAs rep s u

theorem Resumed.skip {s : State} (h : s.rxState = .seek) (b : Byte) :
    Resumed ⟨[.invalidDelimiter b], []⟩ s (raiseInvalidDelimiter b s) :=
  ⟨h, rfl, rfl, rfl, reportedAs_evt (e := .invalidDelimiter b) rfl rfl⟩

/-- What `SCAN` reports of the frame data `d` alone (R110). -/
def frameReport (p : Params) (d : List Byte) : Reports :=
  reportFrame p d ⟨[], []⟩

theorem reportFrame_eq_append (p : Params) (d : List Byte) (r : Reports) :
    reportFrame p d r = (frameReport p d).append r := by
  cases d with
  | nil => rfl
  | cons ft t =>
    simp only [frameReport, reportFrame]
    split <;> rfl

theorem frameReport_malformed {p : Params} {d : List Byte} (h : malformed p d = true) :
    frameReport p d = ⟨[.malformedPacket (!d.isEmpty) (d.headD 0) (BitVec.ofNat 16 d.length)], []⟩ := by
  cases d with
  | nil => rfl
  | cons ft t => rw [frameReport, reportFrame, if_pos h]; rfl

theorem frameReport_valid {p : Params} {d : List Byte} (h : malformed p d = false) :
    frameReport p d =
      ⟨[], [offerOf (classifyAs p (d.headD 0) d) (d.headD 0) (BitVec.ofNat 16 d.length) d]⟩ := by
  cases d with
  | nil => cases h
  | cons ft t => rw [frameReport, reportFrame, if_neg (by simp [h])]; rfl

/-! ### The checksum byte -/

section
variable {claim : List DispRecord → Bool} {s : State} {d : List Byte}

/-- The frame whose data was read passes its checksum: it is validated, acknowledged and reported (R108, R117). -/
theorem validate_midFrame_resumed (hlen : d.length ≤ 65535) :
    ∃ t u, validate (midFrame .checksum (BitVec.ofNat 16 d.length) d s) = .next t ∧ AckedTo claim t u ∧
      Resumed (frameReport s.params d) s u := by
  have hdata := frameData_midFrame .checksum s hlen
  have hvalidate := validate_of_frameData hdata
  rw [midFrame_params] at hvalidate
  cases hm : malformed s.params d with
  | true =>
    rw [if_pos hm] at hvalidate
    refine ⟨_, _, hvalidate, ackedTo_of_ne nofun, rfl, rfl, rfl, rfl, ?_⟩
    rw [frameReport_malformed hm]
    exact reportedAs_evt (e := .malformedPacket (!d.isEmpty) (d.headD 0) (BitVec.ofNat 16 d.length)) rfl rfl
  | false =>
    rw [if_neg (by simp [hm])] at hvalidate
    refine ⟨_, _, hvalidate, .inr ⟨rfl, exec_dispatchAck_offered _ rfl hdata⟩, rfl, rfl, rfl, rfl, ?_⟩
    rw [frameReport_valid hm]
    exact reportedAs_offer rfl rfl

/-- What `SCAN` reports of a whole frame with this checksum byte. -/
def checksumReport (p : Params) (d : List Byte) (c : Byte) : Reports :=
  if verify d c then frameReport p d else ⟨[.checksumError 0 0 0], []⟩

theorem receiveAcked_checksum (hr : s.ctrlRsync = false) {w r : List Byte} {c : Byte}
    (hc : takeValue w s.ctrlEsc = some (c, r)) (hlen : d.length ≤ 65535) :
    ∃ u, receiveAcked claim w (midFrame .checksum (BitVec.ofNat 16 d.length) d s) = receiveAcked claim r u ∧
      Resumed (checksumReport s.params d c) s u := by
  rw [checksumReport]
  by_cases hv : verify d c = true
  · rw [if_pos hv]
    obtain ⟨t, u, hvalidate, hack, hresumed⟩ := validate_midFrame_resumed (claim := claim) (s := s) hlen
    have haccept : acceptValue .checksum c (midFrame .checksum (BitVec.ofNat 16 d.length) d s) = .next t :=
      (if_pos (verify_iff.1 hv)).trans hvalidate
    exact ⟨u, receiveAcked_value hr hc haccept hack, hresumed⟩
  · rw [if_neg hv]
    have haccept : acceptValue .checksum c (midFrame .checksum (BitVec.ofNat 16 d.length) d s) =
        .next (goto .seek (raiseChecksumError c (midFrame .checksum (BitVec.ofNat 16 d.length) d s))) :=
      if_neg (mt verify_iff.2 hv)
    exact ⟨_, receiveAcked_value hr hc haccept (ackedTo_of_ne nofun), rfl, rfl, rfl, rfl,
      reportedAs_evt (e := .checksumError c (0xFF - sum8 d) (BitVec.ofNat 16 d.length)) rfl rfl⟩

end

/-! ### The whole input -/

section
variable {claim : List DispRecord → Bool} {s : State}

/-- After a delimiter the receiver and `DEFRAME` both run out of input, or both read the same frame (R90, R110). -/
theorem receiveAcked_frame (hr : s.ctrlRsync = false) (w : List Byte) :
    (deframeBody w s.ctrlEsc = .incompleteFrame ∧ RunsQuietly claim w (midFrame .lenHi 0 [] s)) ∨
    ∃ d c r u, deframeBody w s.ctrlEsc = (if verify d c then .ok d r else .checksumError r) ∧ r.length ≤ w.length ∧
      receiveAcked claim w (midFrame .lenHi 0 [] s) = receiveAcked claim r u ∧
      Resumed (checksumReport s.params d c) s u := by
  have hsteps := deframeSteps w s.ctrlEsc
  generalize deframeBody w s.ctrlEsc = res at hsteps
  cases hsteps with
  | noLength hlen => exact .inl ⟨rfl, runsQuietly_noLength hr hlen⟩
  | noData len w₁ hlen hdata =>
    rw [RunsQuietly, receiveAcked_length hr hlen]
    exact .inl ⟨rfl, runsQuietly_noData hr hdata (Nat.zero_add _)⟩
  | noChecksum len d w₁ w₂ hlen hdata hcksum =>
    rw [RunsQuietly, receiveAcked_length hr hlen, receiveAcked_data hr hdata (Nat.zero_add _)]
    exact .inl ⟨rfl, runsQuietly_noValue hcksum⟩
  | whole len d w₁ w₂ w₃ c hlen hdata hcksum =>
    obtain ⟨-, hw₁⟩ := takeValues_length hlen
    obtain ⟨hd, hw₂⟩ := takeValues_length hdata
    have hw₃ := takeValue_length hcksum
    have hlen16 : len = BitVec.ofNat 16 d.length := by rw [hd, BitVec.ofNat_toNat, BitVec.setWidth_eq]
    rw [receiveAcked_length hr hlen, receiveAcked_data hr hdata (Nat.zero_add _), List.nil_append, hlen16]
    obtain ⟨u, hu, hresumed⟩ := receiveAcked_checksum (claim := claim) hr hcksum (d := d) (by omega)
    exact .inr ⟨d, c, w₃, u, rfl, by omega, hu, hresumed⟩

section
variable {p : Params} {e : Bool} {n : Nat} {w : List Byte}

theorem scan_cons_ne {b : Byte} (hb : b ≠ 0x7E) :
    scan p e (n + 1) (b :: w) = Reports.append ⟨[.invalidDelimiter b], []⟩ (scan p e n w) := by
  rw [scan, if_pos hb]
  rfl

theorem scan_delim_incomplete (h : deframeBody w e = .incompleteFrame) :
    scan p e (n + 1) (0x7E :: w) = ⟨[], []⟩ := by
  simp [scan, deframe, Config.delim, h]

theorem scan_delim_whole {d r : List Byte} {c : Byte}
    (h : deframeBody w e = if verify d c then .ok d r else .checksumError r) :
    scan p e (n + 1) (0x7E :: w) = (checksumReport p d c).append (scan p e n r) := by
  rw [checksumReport]
  by_cases hv : verify d c = true
  · simp [scan, deframe, Config.delim, h, hv, reportFrame_eq_append]
  · simp [scan, deframe, Config.delim, h, hv]
    rfl

end

/-- What a resumed receiver reports of the rest comes after what it reported before. -/
theorem Resumed.append {rep : Reports} {u t : State} {n : Nat} {w : List Byte} (h : Resumed rep s u)
    (ht : ReportedAs (scan u.params u.ctrlEsc n w) u t) :
    ReportedAs (rep.append (scan s.params s.ctrlEsc n w)) s t := by
  rw [h.params, h.esc] at ht
  exact h.reported.append ht

/-- The receiver reports what `SCAN` reports, with any number of rounds that is enough for the input. -/
theorem receiveAcked_scan {n : Nat} {w : List Byte} (hn : w.length ≤ n) (hs : s.rxState = .seek)
    (hr : s.ctrlRsync = false) :
    ∃ t, receiveAcked claim w s = .next t ∧ ReportedAs (scan s.params s.ctrlEsc n w) s t := by
  induction n generalizing w s with
  | zero =>
    obtain rfl := List.length_eq_zero_iff.1 (Nat.le_zero.1 hn)
    exact ⟨s, rfl, reportedAs_silent rfl rfl⟩
  | succ n ih =>
    cases w with
    | nil => exact ⟨s, rfl, reportedAs_silent rfl rfl⟩
    | cons b w =>
      have hn' : w.length ≤ n := Nat.le_of_succ_le_succ hn
      have hexec : exec (.rxByte b) s = seekByte b s := exec_wireByte_seek rfl rfl hs
      by_cases hb : b = 0x7E
      · subst hb
        have hopen : exec (.rxByte 0x7E) s = .next (midFrame .lenHi 0 [] s) :=
          hexec.trans ((if_pos rfl).trans (congrArg _ (openFrame_eq_midFrame s)))
        rw [receiveAcked_cons hopen ackedTo_midFrame]
        obtain ⟨hbody, t, ht, hevt, hdisp⟩ | ⟨d, c, r, u, hbody, hrest, hu, hresumed⟩ := receiveAcked_frame hr w
        · exact ⟨t, ht, scan_delim_incomplete hbody ▸ reportedAs_silent hevt hdisp⟩
        · obtain ⟨t, ht, hrep⟩ := ih (hrest.trans hn') hresumed.seek (hresumed.rsync.trans hr)
          exact ⟨t, hu.trans ht, scan_delim_whole hbody ▸ hresumed.append hrep⟩
      · have hskip := Resumed.skip hs b
        have hrun := receiveAcked_cons (claim := claim) (bs := w) (hexec.trans (if_neg hb))
          (ackedTo_of_ne (by simp [hskip.seek]))
        obtain ⟨t, ht, hrep⟩ := ih hn' hskip.seek (hskip.rsync.trans hr)
        exact ⟨t, hrun.trans ht, scan_cons_ne hb ▸ hskip.append hrep⟩

end

/-- Settles O29: the run and the scan go frame by frame, and the length of the input is enough rounds. -/
theorem receiverIsTheReferenceDecoder : Obligations.ReceiverIsTheReferenceDecoder := by
  unfold Obligations.ReceiverIsTheReferenceDecoder
  intro w claim s hs hr
  obtain ⟨t, ht, hevts, hoffers⟩ := receiveAcked_scan (claim := claim) (le_refl w.length) hs hr
  exact ⟨t, ht, hevts, hoffers⟩

end Sys2Proof.Machine
end
